-- ==== Sys2Proof/Word.lean ====
section
/-!
DEFINITION. The plain data types of ETC2DEC (spec/00_scope.md R7): bytes, channels, blocks, pixels, tiles, modes.
-/

namespace Sys2Proof

/-- One byte of `STREAM` or `OUT`. -/
abbrev Byte := BitVec 8

/-- "Channel: an 8-bit unsigned value in [0,255]" (R7). -/
abbrev Channel := BitVec 8

/-- "Block is an unsigned 64-bit integer" (R7). Bit 0 is the least significant bit (R6). -/
abbrev Block := BitVec 64

/-- A triple `(R, G, B)` of Channels (R7). `BaseColor` is the same triple. -/
structure Pixel where
  r : Channel
  g : Channel
  b : Channel
deriving DecidableEq, Repr, Inhabited

/-- A DecodedBlock: exactly 16 Pixels. Position `i` is column `i div 4`, row `i mod 4` (R7). -/
structure Tile where
  p0 : Pixel
  p1 : Pixel
  p2 : Pixel
  p3 : Pixel
  p4 : Pixel
  p5 : Pixel
  p6 : Pixel
  p7 : Pixel
  p8 : Pixel
  p9 : Pixel
  p10 : Pixel
  p11 : Pixel
  p12 : Pixel
  p13 : Pixel
  p14 : Pixel
  p15 : Pixel
deriving DecidableEq, Repr, Inhabited

/-- The four paint colours `PAINT[0..3]` of a `T` or `H` block (10_state.md R21). -/
structure Paints where
  c0 : Pixel
  c1 : Pixel
  c2 : Pixel
  c3 : Pixel
deriving DecidableEq, Repr, Inhabited

/-- The five block modes (R7). `UnrecognizedMode` has no value here (60_exceptions.md R153). -/
inductive Mode where
  | individual
  | differential
  | t
  | h
  | planar
deriving DecidableEq, Repr, Inhabited

end Sys2Proof
end

