-- ==== Sys2Proof/Machine/ColorMath.lean ====
section
/-!
DEFINITION. ColorMath, the channel clamping and bit-replication unit CCU (spec/40_colormath.md). Pure functions, no state.
-/

namespace Sys2Proof.Machine

/-- `EXT4(v) = v ++ v` (R70). -/
def ext4 (v : BitVec 4) : Channel := v ++ v

/-- `EXT5(v) = v[4:0] ++ v[4:2]` (R71). -/
def ext5 (v : BitVec 5) : Channel := v ++ v.extractLsb' 2 3

/-- `EXT6(v) = v[5:0] ++ v[5:4]` (R72). -/
def ext6 (v : BitVec 6) : Channel := v ++ v.extractLsb' 4 2

/-- `EXT7(v) = v[6:0] ++ v[6]` (R73). -/
def ext7 (v : BitVec 7) : Channel := v ++ v.extractLsb' 6 1

/-- `ADDS3TO5(delta3, base5)`: the 8-bit sum, not clamped, wrapping mod 256 (R74). -/
def adds3to5 (delta : BitVec 3) (base : BitVec 5) : BitVec 8 :=
  base.setWidth 8 + delta.signExtend 8

/-- `clamp255(s)` (R77). -/
def clamp255 (s : Int) : Channel :=
  if s < 0 then 0 else if 255 < s then 255 else BitVec.ofNat 8 s.toNat

/-- `CLAMPADD(base8, delta)`, the sum taken in the integers (R76). -/
def clampAdd (base : Channel) (delta : Int) : Channel :=
  clamp255 (base.toNat + delta)

/-- `CLAMPADD3(p, delta)`: each channel on its own with the same delta (R76). -/
def clampAdd3 (p : Pixel) (delta : Int) : Pixel :=
  ⟨clampAdd p.r delta, clampAdd p.g delta, clampAdd p.b delta⟩

end Sys2Proof.Machine
end

