-- ==== Sys2Proof/Machine/Flags.lean ====
section
/-!
DEFINITION. The predicates of ETC2DEC. "ETC2DEC stores no status flag, condition code or predicate" (spec/10_state.md R24):
what other machines keep as flags are here pure Boolean functions, computed from the block and consumed at once.
-/

namespace Sys2Proof.Machine

/-- `OVF5(base5, delta3)`: bits 7:5 of `ADDS3TO5` are not all zero (40_colormath.md R75). -/
def ovf5 (base : BitVec 5) (delta : BitVec 3) : Bool :=
  (adds3to5 delta base).extractLsb' 5 3 != 0

/-- The 24-bit packed RGB integer of a colour, R in the top byte (41_mode_dispatch.md R91). -/
def packRgb (p : Pixel) : BitVec 24 := p.r ++ p.g ++ p.b

/-- The ordering bit of the H distance selector: 1 exactly when `p0 >= p1` (R91). -/
def orderBit (base0 base1 : Pixel) : BitVec 1 :=
  if packRgb base1 ≤ packRgb base0 then 1 else 0

end Sys2Proof.Machine
end

