-- ==== Sys2Proof/Config.lean ====
section
/-!
DEFINITION. What is fixed for a run (spec/00_scope.md R5, spec/10_state.md R27), as types, and the free values.
The VALUES of the layout and of the constant tables stand in Sys2Proof/Machine/Tables.lean, where a repair may correct them.
-/

namespace Sys2Proof

/-- One row of the CodewordTable: four signed deltas, by PixelIndex (42_etc1_family.md R101). -/
structure CodewordRow where
  d0 : Int
  d1 : Int
  d2 : Int
  d3 : Int
deriving DecidableEq, Repr

/-- `CW`: "constant table of 8 rows × 4 signed 16-bit deltas" (R101). -/
structure CodewordTable where
  row0 : CodewordRow
  row1 : CodewordRow
  row2 : CodewordRow
  row3 : CodewordRow
  row4 : CodewordRow
  row5 : CodewordRow
  row6 : CodewordRow
  row7 : CodewordRow
deriving DecidableEq, Repr

/-- `DT`: "constant 8-entry table of unsigned distances" (43_th_modes.md R111). -/
structure DistanceTable where
  d0 : Nat
  d1 : Nat
  d2 : Nat
  d3 : Nat
  d4 : Nat
  d5 : Nat
  d6 : Nat
  d7 : Nat
deriving DecidableEq, Repr

/-- Lowest bit of each field of `INDIVIDUAL` (30_encoding.md R52); the widths are those of `IndividualFields`. -/
structure IndividualLayout where
  r0 : Nat
  r1 : Nat
  g0 : Nat
  g1 : Nat
  b0 : Nat
  b1 : Nat
  ts0 : Nat
  ts1 : Nat
  flip : Nat
deriving DecidableEq, Repr

/-- Lowest bit of each field of `DIFFERENTIAL` (R53). -/
structure DifferentialLayout where
  r0 : Nat
  dr : Nat
  g0 : Nat
  dg : Nat
  b0 : Nat
  db : Nat
  ts0 : Nat
  ts1 : Nat
  flip : Nat
deriving DecidableEq, Repr

/-- Lowest bit of each field of `T` (R54). -/
structure TLayout where
  u63 : Nat
  r0a : Nat
  u58 : Nat
  r0b : Nat
  g0 : Nat
  b0 : Nat
  r1 : Nat
  g1 : Nat
  b1 : Nat
  da : Nat
  db : Nat
deriving DecidableEq, Repr

/-- Lowest bit of each field of `H` (R55). -/
structure HLayout where
  u63 : Nat
  r0 : Nat
  g0a : Nat
  u55 : Nat
  g0b : Nat
  b0a : Nat
  u50 : Nat
  b0b : Nat
  r1 : Nat
  g1 : Nat
  b1 : Nat
  da : Nat
  db : Nat
deriving DecidableEq, Repr

/-- Lowest bit of each field of `PLANAR` (R56). -/
structure PlanarLayout where
  u63 : Nat
  ro : Nat
  goa : Nat
  u55 : Nat
  gob : Nat
  boa : Nat
  u47 : Nat
  bob : Nat
  u42 : Nat
  boc : Nat
  rha : Nat
  rhb : Nat
  gh : Nat
  bh : Nat
  rv : Nat
  gv : Nat
  bv : Nat
deriving DecidableEq, Repr

/-- `LAYOUT`: "bit positions of every field of every mode other than the three the source gives" (00_scope.md R5); the three,
`DIFF`, `IDXHI` and `IDXLO`, are constants of Sys2Proof/Decode.lean. -/
structure Layout where
  individual : IndividualLayout
  differential : DifferentialLayout
  t : TLayout
  h : HLayout
  planar : PlanarLayout
deriving DecidableEq, Repr

/-- The parameters of a run other than the stream: "fixed before `START` and never written by the core ...
A claim about ETC2DEC quantifies over them" (R27). A capacity is `none` where it is unbounded (R5). -/
structure Params where
  layout : Layout
  cw : CodewordTable
  dt : DistanceTable
  planarBase : Nat
  bandCapacity : Option Nat
  outCapacity : Option Nat
deriving DecidableEq, Repr

/-- FREE VALUE (safe, log entry 5): the byte a host read of `OUT` returns where the spec says "unspecified bytes"
(70_reset_and_hazards.md R176, 93_implementation_defined.md U4). Applied to the counter `State.freeCtr`. -/
opaque Config.freeByte : Nat → Byte

/-- FREE VALUE (safe, log entry 5): the Pixel a read of an unspecified `BAND` slot gives (U5). No run reads one. -/
opaque Config.freePixel : Nat → Pixel

/-- `DIMW`, the width of the four dimension registers (R5). -/
abbrev Config.dimW : Nat := 32

/-- `BLOCK_BYTES`, the bytes of one compressed block (R5). -/
abbrev Config.blockBytes : Nat := 8

end Sys2Proof
end

