-- ==== Sys2Proof/Machine/Tables.lean ====
section
/-!
DEFINITION. The values of the run parameters: the CodewordTable (spec/42_etc1_family.md R101), the DistanceTable
(spec/43_th_modes.md R111), the field layout `LAYOUT` (spec/30_encoding.md R52 to R56), `PLANAR_BASE` (spec/44_planar.md R121)
and the capacities (spec/00_scope.md R5). The table values and the bit positions are the spec's
`[from general knowledge, not in source]` (log entries 7, 8).
-/

namespace Sys2Proof.Machine

/-- `CW` (R101). -/
def codewordTable : CodewordTable where
  row0 := ⟨2, 8, -2, -8⟩
  row1 := ⟨5, 17, -5, -17⟩
  row2 := ⟨9, 29, -9, -29⟩
  row3 := ⟨13, 42, -13, -42⟩
  row4 := ⟨18, 60, -18, -60⟩
  row5 := ⟨24, 80, -24, -80⟩
  row6 := ⟨33, 106, -33, -106⟩
  row7 := ⟨47, 183, -47, -183⟩

/-- `DT` (R111). -/
def distanceTable : DistanceTable := ⟨3, 6, 11, 16, 23, 32, 41, 64⟩

/-- The table of 30_encoding.md R52. -/
def individualLayout : IndividualLayout where
  r0 := 60
  r1 := 56
  g0 := 52
  g1 := 48
  b0 := 44
  b1 := 40
  ts0 := 37
  ts1 := 34
  flip := 32

/-- The table of R53; also the operands of the three overflow tests (41_mode_dispatch.md R81). -/
def differentialLayout : DifferentialLayout where
  r0 := 59
  dr := 56
  g0 := 51
  dg := 48
  b0 := 43
  db := 40
  ts0 := 37
  ts1 := 34
  flip := 32

/-- The table of R54. -/
def tLayout : TLayout where
  u63 := 61
  r0a := 59
  u58 := 58
  r0b := 56
  g0 := 52
  b0 := 48
  r1 := 44
  g1 := 40
  b1 := 36
  da := 34
  db := 32

/-- The table of R55. -/
def hLayout : HLayout where
  u63 := 63
  r0 := 59
  g0a := 56
  u55 := 53
  g0b := 52
  b0a := 51
  u50 := 50
  b0b := 47
  r1 := 43
  g1 := 39
  b1 := 35
  da := 34
  db := 32

/-- The table of R56. -/
def planarLayout : PlanarLayout where
  u63 := 63
  ro := 57
  goa := 56
  u55 := 55
  gob := 49
  boa := 48
  u47 := 45
  bob := 43
  u42 := 42
  boc := 39
  rha := 34
  rhb := 32
  gh := 25
  bh := 19
  rv := 13
  gv := 6
  bv := 0

/-- `LAYOUT` as the spec gives it (30_encoding.md R52 to R56). -/
def specLayout : Layout where
  individual := individualLayout
  differential := differentialLayout
  t := tLayout
  h := hLayout
  planar := planarLayout

/-- The run parameters at reset. The spec leaves both capacities OPEN (R5): DESIGN CHOICE, unsafe (log entry 6): unbounded. -/
def runParams : Params where
  layout := specLayout
  cw := codewordTable
  dt := distanceTable
  planarBase := 1
  bandCapacity := none
  outCapacity := none

end Sys2Proof.Machine
end

