-- ==== Sys2Proof/Syntax.lean ====
section
/-!
DEFINITION. The instructions of ETC2DEC: the five block formats with every field of spec/30_encoding.md R52 to R56, the
unused bits among them (field form, R63), and the host command `START` (R62).
-/

namespace Sys2Proof

/-- Fields of an `INDIVIDUAL` block (R52). -/
structure IndividualFields where
  /-- `R0_4` -/
  r0 : BitVec 4
  /-- `R1_4` -/
  r1 : BitVec 4
  /-- `G0_4` -/
  g0 : BitVec 4
  /-- `G1_4` -/
  g1 : BitVec 4
  /-- `B0_4` -/
  b0 : BitVec 4
  /-- `B1_4` -/
  b1 : BitVec 4
  ts0 : BitVec 3
  ts1 : BitVec 3
  flip : BitVec 1
  idxHi : BitVec 16
  idxLo : BitVec 16
deriving DecidableEq, Repr

/-- Fields of a `DIFFERENTIAL` block (R53). -/
structure DifferentialFields where
  /-- `R0_5` -/
  r0 : BitVec 5
  /-- `DR`, two's complement -/
  dr : BitVec 3
  /-- `G0_5` -/
  g0 : BitVec 5
  /-- `DG`, two's complement -/
  dg : BitVec 3
  /-- `B0_5` -/
  b0 : BitVec 5
  /-- `DB`, two's complement -/
  db : BitVec 3
  ts0 : BitVec 3
  ts1 : BitVec 3
  flip : BitVec 1
  idxHi : BitVec 16
  idxLo : BitVec 16
deriving DecidableEq, Repr

/-- Fields of a `T` block (R54), unused bits 63:61 and 58 included. -/
structure TFields where
  u63 : BitVec 3
  /-- `TR0a`, red of base colour 0, bits 3:2 -/
  r0a : BitVec 2
  u58 : BitVec 1
  /-- `TR0b`, red of base colour 0, bits 1:0 -/
  r0b : BitVec 2
  g0 : BitVec 4
  b0 : BitVec 4
  r1 : BitVec 4
  g1 : BitVec 4
  b1 : BitVec 4
  /-- `TDa`, distance selector bits 2:1 -/
  da : BitVec 2
  /-- `TDb`, distance selector bit 0 -/
  db : BitVec 1
  idxHi : BitVec 16
  idxLo : BitVec 16
deriving DecidableEq, Repr

/-- Fields of an `H` block (R55), unused bits 63, 55:53 and 50 included. -/
structure HFields where
  u63 : BitVec 1
  r0 : BitVec 4
  /-- `HG0a`, green of base colour 0, bits 3:1 -/
  g0a : BitVec 3
  u55 : BitVec 3
  /-- `HG0b`, green of base colour 0, bit 0 -/
  g0b : BitVec 1
  /-- `HB0a`, blue of base colour 0, bit 3 -/
  b0a : BitVec 1
  u50 : BitVec 1
  /-- `HB0b`, blue of base colour 0, bits 2:0 -/
  b0b : BitVec 3
  r1 : BitVec 4
  g1 : BitVec 4
  b1 : BitVec 4
  /-- `HDa`, distance selector bit 2 -/
  da : BitVec 1
  /-- `HDb`, distance selector bit 1 -/
  db : BitVec 1
  idxHi : BitVec 16
  idxLo : BitVec 16
deriving DecidableEq, Repr

/-- Fields of a `PLANAR` block (R56), unused bits 63, 55, 47:45 and 42 included. -/
structure PlanarFields where
  u63 : BitVec 1
  /-- `RO` -/
  ro : BitVec 6
  /-- `GOa`, green of O, bit 6 -/
  goa : BitVec 1
  u55 : BitVec 1
  /-- `GOb`, green of O, bits 5:0 -/
  gob : BitVec 6
  /-- `BOa`, blue of O, bit 5 -/
  boa : BitVec 1
  u47 : BitVec 3
  /-- `BOb`, blue of O, bits 4:3 -/
  bob : BitVec 2
  u42 : BitVec 1
  /-- `BOc`, blue of O, bits 2:0 -/
  boc : BitVec 3
  /-- `RHa`, red of H, bits 5:1 -/
  rha : BitVec 5
  /-- `RHb`, red of H, bit 0 -/
  rhb : BitVec 1
  gh : BitVec 7
  bh : BitVec 6
  rv : BitVec 6
  gv : BitVec 7
  bv : BitVec 6
deriving DecidableEq, Repr

/-- The instructions: one constructor per row of spec/opcode_table.json. -/
inductive Instr where
  | individual (f : IndividualFields)
  | differential (f : DifferentialFields)
  | t (f : TFields)
  | h (f : HFields)
  | planar (f : PlanarFields)
  /-- A write to `CTRL` with bit 0 set; `ignored` holds bits 31:1 of the value (R62). -/
  | start (ignored : BitVec 31)
deriving DecidableEq, Repr

end Sys2Proof
end

