-- ==== Sys2Proof/Decode.lean ====
section
/-!
DEFINITION. The mode discriminator, the decoder, and the encoder (spec/30_encoding.md, spec/41_mode_dispatch.md sections 1, 2).
All take `LAYOUT`, a parameter of the run (spec/10_state.md R27), as an argument and read from it every bit position but the
three the source gives: bit 33 and the two index planes.
-/

namespace Sys2Proof

/-- The position of `DIFF`: "bit 33 (0-indexed from LSB)" (R51). -/
def diffPos : Nat := 33

/-- The lowest bit of `IDXHI`: bits 31:16 (R51). -/
def idxHiPos : Nat := 16

/-- The lowest bit of `IDXLO`: bits 15:0 (R51). -/
def idxLoPos : Nat := 0

/-- `BLK[lo+n-1 : lo]` (00_scope.md R6). -/
def field (w : Block) (lo n : Nat) : BitVec n := w.extractLsb' lo n

/-- The bits of `v` put at bit position `lo` of a block, every other bit 0. -/
def place {n : Nat} (v : BitVec n) (lo : Nat) : Block := v.setWidth 64 <<< lo

/-- The 64-bit word of 8 stream bytes, `BLK = b0 ++ b1 ++ ... ++ b7`: `BLK[63:56] = b0`, ..., `BLK[7:0] = b7` (20_memory.md R37,
30_encoding.md R50); `none` where there are not exactly 8. -/
def blockOfBytes : List Byte → Option Block
  | [b0, b1, b2, b3, b4, b5, b6, b7] =>
    some (place b0 56 ||| place b1 48 ||| place b2 40 ||| place b3 32 ||| place b4 24 ||| place b5 16 ||| place b6 8 |||
      place b7 0)
  | _ => none

/-- The 8 stream bytes of a block, most significant first (R37). -/
def bytesOfBlock (w : Block) : List Byte :=
  [field w 56 8, field w 48 8, field w 40 8, field w 32 8, field w 24 8, field w 16 8, field w 8 8, field w 0 8]

/-- `DIFF = BLK[33]` (R51, 41_mode_dispatch.md R84). -/
def diffBit (w : Block) : Bool := w.getLsbD diffPos

/-- `OVFR`, the red overflow test (41_mode_dispatch.md R81, R82). -/
def ovfR (l : DifferentialLayout) (w : Block) : Bool := Machine.ovf5 (field w l.r0 5) (field w l.dr 3)

/-- `OVFG`, the green overflow test. -/
def ovfG (l : DifferentialLayout) (w : Block) : Bool := Machine.ovf5 (field w l.g0 5) (field w l.dg 3)

/-- `OVFB`, the blue overflow test. -/
def ovfB (l : DifferentialLayout) (w : Block) : Bool := Machine.ovf5 (field w l.b0 5) (field w l.db 3)

/-- `MODE_OF(BLK)`, the decision procedure (41_mode_dispatch.md R86). -/
def modeOf (l : Layout) (w : Block) : Mode :=
  if diffBit w = false then .individual
  else if ovfR l.differential w then .t
  else if ovfG l.differential w then .h
  else if ovfB l.differential w then .planar
  else .differential

/-- The fields of an `INDIVIDUAL` block (R52). -/
def individualFieldsOf (l : IndividualLayout) (w : Block) : IndividualFields where
  r0 := field w l.r0 4
  r1 := field w l.r1 4
  g0 := field w l.g0 4
  g1 := field w l.g1 4
  b0 := field w l.b0 4
  b1 := field w l.b1 4
  ts0 := field w l.ts0 3
  ts1 := field w l.ts1 3
  flip := field w l.flip 1
  idxHi := field w idxHiPos 16
  idxLo := field w idxLoPos 16

/-- The fields of a `DIFFERENTIAL` block (R53). -/
def differentialFieldsOf (l : DifferentialLayout) (w : Block) : DifferentialFields where
  r0 := field w l.r0 5
  dr := field w l.dr 3
  g0 := field w l.g0 5
  dg := field w l.dg 3
  b0 := field w l.b0 5
  db := field w l.db 3
  ts0 := field w l.ts0 3
  ts1 := field w l.ts1 3
  flip := field w l.flip 1
  idxHi := field w idxHiPos 16
  idxLo := field w idxLoPos 16

/-- The fields of a `T` block (R54). -/
def tFieldsOf (l : TLayout) (w : Block) : TFields where
  u63 := field w l.u63 3
  r0a := field w l.r0a 2
  u58 := field w l.u58 1
  r0b := field w l.r0b 2
  g0 := field w l.g0 4
  b0 := field w l.b0 4
  r1 := field w l.r1 4
  g1 := field w l.g1 4
  b1 := field w l.b1 4
  da := field w l.da 2
  db := field w l.db 1
  idxHi := field w idxHiPos 16
  idxLo := field w idxLoPos 16

/-- The fields of an `H` block (R55). -/
def hFieldsOf (l : HLayout) (w : Block) : HFields where
  u63 := field w l.u63 1
  r0 := field w l.r0 4
  g0a := field w l.g0a 3
  u55 := field w l.u55 3
  g0b := field w l.g0b 1
  b0a := field w l.b0a 1
  u50 := field w l.u50 1
  b0b := field w l.b0b 3
  r1 := field w l.r1 4
  g1 := field w l.g1 4
  b1 := field w l.b1 4
  da := field w l.da 1
  db := field w l.db 1
  idxHi := field w idxHiPos 16
  idxLo := field w idxLoPos 16

/-- The fields of a `PLANAR` block (R56). -/
def planarFieldsOf (l : PlanarLayout) (w : Block) : PlanarFields where
  u63 := field w l.u63 1
  ro := field w l.ro 6
  goa := field w l.goa 1
  u55 := field w l.u55 1
  gob := field w l.gob 6
  boa := field w l.boa 1
  u47 := field w l.u47 3
  bob := field w l.bob 2
  u42 := field w l.u42 1
  boc := field w l.boc 3
  rha := field w l.rha 5
  rhb := field w l.rhb 1
  gh := field w l.gh 7
  bh := field w l.bh 6
  rv := field w l.rv 6
  gv := field w l.gv 7
  bv := field w l.bv 6

/-- Decoding a block: total, no block is refused (R60, 41_mode_dispatch.md R87). -/
def decodeBlock (l : Layout) (w : Block) : Instr :=
  match modeOf l w with
  | .individual => .individual (individualFieldsOf l.individual w)
  | .differential => .differential (differentialFieldsOf l.differential w)
  | .t => .t (tFieldsOf l.t w)
  | .h => .h (hFieldsOf l.h w)
  | .planar => .planar (planarFieldsOf l.planar w)

/-- What the machine can be given to decode: a block of the stream or a value written to `CTRL`. -/
inductive Code where
  | block (w : BitVec 64)
  | ctrl (v : BitVec 32)
deriving DecidableEq, Repr

/-- Why something is no instruction. -/
inductive Reject where
  /-- Raised by `decode`: a `CTRL` value with bit 0 clear, which "does nothing" (10_state.md R15). Safe. -/
  | startBitClear
  /-- Raised by `decodeBytes`: not exactly 8 bytes, so no block (45_assembler.md R142 makes it a `ShortRead`). Safe. -/
  | notEightBytes (n : Nat)
deriving DecidableEq, Repr

/-- The decoder. -/
def decode (l : Layout) : Code → Except Reject Instr
  | .block w => .ok (decodeBlock l w)
  | .ctrl v => if v.getLsbD 0 then .ok (.start (v.extractLsb' 1 31)) else .error .startBitClear

/-- Decoding the bytes of the stream, any number of them: total, rejecting by name. -/
def decodeBytes (l : Layout) (bs : List Byte) : Except Reject Instr :=
  match blockOfBytes bs with
  | some w => .ok (decodeBlock l w)
  | none => .error (.notEightBytes bs.length)

/-- The word of an `INDIVIDUAL` block, `DIFF = 0` (R52). -/
def individualWord (l : IndividualLayout) (f : IndividualFields) : Block :=
  place f.r0 l.r0 ||| place f.r1 l.r1 |||
  place f.g0 l.g0 ||| place f.g1 l.g1 |||
  place f.b0 l.b0 ||| place f.b1 l.b1 |||
  place f.ts0 l.ts0 ||| place f.ts1 l.ts1 |||
  place f.flip l.flip ||| place f.idxHi idxHiPos ||| place f.idxLo idxLoPos

/-- The word of a `DIFFERENTIAL` block, `DIFF = 1` (R53). -/
def differentialWord (l : DifferentialLayout) (f : DifferentialFields) : Block :=
  place f.r0 l.r0 ||| place f.dr l.dr |||
  place f.g0 l.g0 ||| place f.dg l.dg |||
  place f.b0 l.b0 ||| place f.db l.db |||
  place f.ts0 l.ts0 ||| place f.ts1 l.ts1 ||| place (1 : BitVec 1) diffPos |||
  place f.flip l.flip ||| place f.idxHi idxHiPos ||| place f.idxLo idxLoPos

/-- The word of a `T` block, `DIFF = 1` (R54). -/
def tWord (l : TLayout) (f : TFields) : Block :=
  place f.u63 l.u63 ||| place f.r0a l.r0a ||| place f.u58 l.u58 ||| place f.r0b l.r0b |||
  place f.g0 l.g0 ||| place f.b0 l.b0 ||| place f.r1 l.r1 ||| place f.g1 l.g1 |||
  place f.b1 l.b1 ||| place f.da l.da ||| place (1 : BitVec 1) diffPos ||| place f.db l.db |||
  place f.idxHi idxHiPos ||| place f.idxLo idxLoPos

/-- The word of an `H` block, `DIFF = 1` (R55). -/
def hWord (l : HLayout) (f : HFields) : Block :=
  place f.u63 l.u63 ||| place f.r0 l.r0 ||| place f.g0a l.g0a ||| place f.u55 l.u55 |||
  place f.g0b l.g0b ||| place f.b0a l.b0a ||| place f.u50 l.u50 ||| place f.b0b l.b0b |||
  place f.r1 l.r1 ||| place f.g1 l.g1 ||| place f.b1 l.b1 ||| place f.da l.da |||
  place (1 : BitVec 1) diffPos ||| place f.db l.db ||| place f.idxHi idxHiPos ||| place f.idxLo idxLoPos

/-- The word of a `PLANAR` block, `DIFF = 1` (R56). -/
def planarWord (l : PlanarLayout) (f : PlanarFields) : Block :=
  place f.u63 l.u63 ||| place f.ro l.ro ||| place f.goa l.goa |||
  place f.u55 l.u55 ||| place f.gob l.gob ||| place f.boa l.boa |||
  place f.u47 l.u47 ||| place f.bob l.bob ||| place f.u42 l.u42 |||
  place f.boc l.boc ||| place f.rha l.rha ||| place (1 : BitVec 1) diffPos |||
  place f.rhb l.rhb ||| place f.gh l.gh ||| place f.bh l.bh |||
  place f.rv l.rv ||| place f.gv l.gv ||| place f.bv l.bv

/-- The encoder, written from the same layout tables. -/
def encode (l : Layout) : Instr → Code
  | .individual f => .block (individualWord l.individual f)
  | .differential f => .block (differentialWord l.differential f)
  | .t f => .block (tWord l.t f)
  | .h f => .block (hWord l.h f)
  | .planar f => .block (planarWord l.planar f)
  | .start ignored => .ctrl (ignored ++ (1 : BitVec 1))

/-- The bytes of a table word in the stream: for a block the 8 bytes, big-endian. -/
def tableBytes (w : Nat) : List Byte := bytesOfBlock (BitVec.ofNat 64 w)

/-- The instruction the decoder reads from an opcode-table word: 64 bits are a block, numbered as the table numbers it
(bit 0 is the least significant bit of `BLK`), laid out as 8 big-endian bytes; 32 bits are a value written to `CTRL`. -/
def decodeTableWord (nbits w : Nat) : Option Instr :=
  if nbits = 64 then
    match decodeBytes Machine.specLayout (tableBytes w) with
    | .ok i => some i
    | .error _ => none
  else if nbits = 32 then
    match decode Machine.specLayout (.ctrl (BitVec.ofNat 32 w)) with
    | .ok i => some i
    | .error _ => none
  else none

end Sys2Proof
end

