-- ==== Sys2Proof/Machine/Operands.lean ====
section
/-!
DEFINITION. Operand assembly (spec/30_encoding.md R57, R58): what each field form means as colours, selectors and indices,
and the look-ups in tiles, paints and constant tables.
-/

namespace Sys2Proof.Machine

/-- Pixel `i` of a DecodedBlock; `none` above 15. -/
def tileGet (t : Tile) : Nat → Option Pixel
  | 0 => some t.p0
  | 1 => some t.p1
  | 2 => some t.p2
  | 3 => some t.p3
  | 4 => some t.p4
  | 5 => some t.p5
  | 6 => some t.p6
  | 7 => some t.p7
  | 8 => some t.p8
  | 9 => some t.p9
  | 10 => some t.p10
  | 11 => some t.p11
  | 12 => some t.p12
  | 13 => some t.p13
  | 14 => some t.p14
  | 15 => some t.p15
  | _ => none

/-- The DecodedBlock whose pixel `i` is `f i`, for `i` in 0 .. 15. -/
def tileOf (f : Nat → Pixel) : Tile :=
  ⟨f 0, f 1, f 2, f 3, f 4, f 5, f 6, f 7, f 8, f 9, f 10, f 11, f 12, f 13, f 14, f 15⟩

/-- `PAINT[idx]`. -/
def paintGet (p : Paints) (idx : BitVec 2) : Pixel :=
  match idx.toNat with
  | 0 => p.c0
  | 1 => p.c1
  | 2 => p.c2
  | _ => p.c3

/-- One entry of a codeword row, by PixelIndex. -/
def rowGet (r : CodewordRow) (idx : BitVec 2) : Int :=
  match idx.toNat with
  | 0 => r.d0
  | 1 => r.d1
  | 2 => r.d2
  | _ => r.d3

/-- `CW[ts][idx]` (42_etc1_family.md R101). -/
def cwGet (cw : CodewordTable) (ts : BitVec 3) (idx : BitVec 2) : Int :=
  match ts.toNat with
  | 0 => rowGet cw.row0 idx
  | 1 => rowGet cw.row1 idx
  | 2 => rowGet cw.row2 idx
  | 3 => rowGet cw.row3 idx
  | 4 => rowGet cw.row4 idx
  | 5 => rowGet cw.row5 idx
  | 6 => rowGet cw.row6 idx
  | _ => rowGet cw.row7 idx

/-- `DT[dsel]` (43_th_modes.md R111). -/
def dtGet (dt : DistanceTable) (dsel : BitVec 3) : Nat :=
  match dsel.toNat with
  | 0 => dt.d0
  | 1 => dt.d1
  | 2 => dt.d2
  | 3 => dt.d3
  | 4 => dt.d4
  | 5 => dt.d5
  | 6 => dt.d6
  | _ => dt.d7

/-- `PIDX(BLK, i) = BLK[i+16] ++ BLK[i]`, from the two index planes (R57). -/
def pixelIndex (idxHi idxLo : BitVec 16) (i : Nat) : BitVec 2 :=
  BitVec.ofBool (idxHi.getLsbD i) ++ BitVec.ofBool (idxLo.getLsbD i)

/-- `BASE0` of an `INDIVIDUAL` block (41_mode_dispatch.md R88). -/
def individualBase0 (f : IndividualFields) : Pixel := ⟨ext4 f.r0, ext4 f.g0, ext4 f.b0⟩

/-- `BASE1` of an `INDIVIDUAL` block (R88). -/
def individualBase1 (f : IndividualFields) : Pixel := ⟨ext4 f.r1, ext4 f.g1, ext4 f.b1⟩

/-- The 5-bit channel of base colour 1: `ADDS3TO5(delta, base)[4:0]` (R89). -/
def deltaChannel (base : BitVec 5) (delta : BitVec 3) : BitVec 5 := (adds3to5 delta base).extractLsb' 0 5

/-- `BASE0` of a `DIFFERENTIAL` block (R89). -/
def differentialBase0 (f : DifferentialFields) : Pixel := ⟨ext5 f.r0, ext5 f.g0, ext5 f.b0⟩

/-- `BASE1` of a `DIFFERENTIAL` block: the sums at 5-bit precision, then extended (R89). -/
def differentialBase1 (f : DifferentialFields) : Pixel :=
  ⟨ext5 (deltaChannel f.r0 f.dr), ext5 (deltaChannel f.g0 f.dg), ext5 (deltaChannel f.b0 f.db)⟩

/-- `BASE0` of a `T` block (R90). -/
def tBase0 (f : TFields) : Pixel := ⟨ext4 (f.r0a ++ f.r0b), ext4 f.g0, ext4 f.b0⟩

/-- `BASE1` of a `T` block (R90). -/
def tBase1 (f : TFields) : Pixel := ⟨ext4 f.r1, ext4 f.g1, ext4 f.b1⟩

/-- `DSEL` of a `T` block: `TDa ++ TDb` (R90). -/
def tDsel (f : TFields) : BitVec 3 := f.da ++ f.db

/-- `BASE0` of an `H` block (R91). -/
def hBase0 (f : HFields) : Pixel := ⟨ext4 f.r0, ext4 (f.g0a ++ f.g0b), ext4 (f.b0a ++ f.b0b)⟩

/-- `BASE1` of an `H` block (R91). -/
def hBase1 (f : HFields) : Pixel := ⟨ext4 f.r1, ext4 f.g1, ext4 f.b1⟩

/-- `DSEL` of an `H` block: the two stored bits, then the ordering bit (R91). -/
def hDsel (f : HFields) : BitVec 3 := f.da ++ f.db ++ orderBit (hBase0 f) (hBase1 f)

/-- `CO` of a `PLANAR` block (R92). -/
def planarO (f : PlanarFields) : Pixel := ⟨ext6 f.ro, ext7 (f.goa ++ f.gob), ext6 (f.boa ++ f.bob ++ f.boc)⟩

/-- `CH` of a `PLANAR` block (R92). -/
def planarH (f : PlanarFields) : Pixel := ⟨ext6 (f.rha ++ f.rhb), ext7 f.gh, ext6 f.bh⟩

/-- `CV` of a `PLANAR` block (R92). -/
def planarV (f : PlanarFields) : Pixel := ⟨ext6 f.rv, ext7 f.gv, ext6 f.bv⟩

end Sys2Proof.Machine
end

