-- ==== Sys2Proof/Machine/State.lean ====
section
/-!
DEFINITION. The state of ETC2DEC (spec/10_state.md), the host's moves, the reasons a step can stop, and the state after reset.
-/

namespace Sys2Proof.Machine

/-- Sparse data by key: (key, value) pairs, keys strictly rising (`Store.wf`), so equal contents are equal lists.
A key that is not listed holds no value. -/
abbrev Store (α : Type) := List (Nat × α)

/-- A byte space (`STREAM` or `OUT`). An unlisted address holds no value: past the end of `S`, or an `OUT` byte not
written since `START` (log entry 4). -/
abbrev Memory := List Host.Cell

/-- The canonical form: keys strictly rising, hence no key twice. No listed entry can equal what an unlisted key reads as,
since an unlisted key has no value. -/
abbrev Store.wf {α : Type} (m : Store α) : Prop := m.Pairwise (fun a b => a.1 < b.1)

/-- The canonical form of a byte space. -/
abbrev Memory.wf (m : Memory) : Prop := Store.wf m

/-- `STATUS.STATE` (10_state.md R16). -/
inductive RunState where
  | idle
  | busy
  | done
  | error
deriving DecidableEq, Repr

/-- `ERR_KIND.KIND` (10_state.md R17, 60_exceptions.md R150). -/
inductive ErrKind where
  | none
  | invalidResolution
  | shortRead
  | allocationFailure
  | unrecognizedMode
deriving DecidableEq, Repr

/-- Which intermediate configuration a BUSY core is in: `READ(BY, BX)` or `EMIT(BY, J, BX, K)` (45_assembler.md R149). -/
inductive Phase where
  | read
  | emit
deriving DecidableEq, Repr

/-- One move of the host (20_memory.md R48, 70_reset_and_hazards.md R170, R173). MODEL'S OWN (log entry 1). -/
inductive HostOp where
  /-- Write CSR register number `reg`, all of it. -/
  | write (reg : Nat) (v : BitVec 64)
  /-- Read CSR register number `reg`; the value goes to `rdata`. -/
  | read (reg : Nat)
  /-- Read the byte of `OUT` at `addr`; the value goes to `rdata`. -/
  | readOut (addr : Nat)
  /-- Make the stream `S` available. -/
  | supply (bytes : List Byte)
  /-- Apply reset. -/
  | reset
  /-- Do nothing while the core takes one step. -/
  | wait
  /-- Let the core run until `STATUS.STATE` is not BUSY (steps 1 and 5 of R173). -/
  | awaitNotBusy
deriving DecidableEq, Repr

/-- The datapath registers (10_state.md R21). -/
structure Datapath where
  blk : Block
  mode : Mode
  base0 : Pixel
  base1 : Pixel
  co : Pixel
  ch : Pixel
  cv : Pixel
  ts0 : BitVec 3
  ts1 : BitVec 3
  flip : BitVec 1
  dsel : BitVec 3
  paint : Paints
  pix : Tile
deriving DecidableEq, Repr

/-- The state. Sizes, counts and positions are natural numbers (00_scope.md R7, 10_state.md R14, R20). -/
structure State where
  /-- `REQ_WIDTH` (CSR 0) -/
  reqWidth : BitVec 32
  /-- `REQ_HEIGHT` (CSR 1) -/
  reqHeight : BitVec 32
  /-- `STREAM_LEN` (CSR 2) -/
  streamLen : BitVec 64
  /-- `STATUS.STATE` (CSR 4) -/
  status : RunState
  /-- `ERR_KIND.KIND` (CSR 5) -/
  errKind : ErrKind
  /-- `ERR_REQUIRED` (CSR 6) -/
  errRequired : BitVec 64
  /-- `ERR_AVAILABLE` (CSR 7) -/
  errAvailable : BitVec 64
  /-- `RES_WIDTH` (CSR 8) -/
  resWidth : BitVec 32
  /-- `RES_HEIGHT` (CSR 9) -/
  resHeight : BitVec 32
  /-- `POS` (R14) -/
  pos : Nat
  /-- `W` (R20) -/
  w : Nat
  /-- `H` (R20) -/
  h : Nat
  /-- `XB` (R20) -/
  xb : Nat
  /-- `YB` (R20) -/
  yb : Nat
  /-- `BY` (R20) -/
  bandY : Nat
  /-- `BX` (R20) -/
  blockX : Nat
  /-- `J` (R20) -/
  rowJ : Nat
  /-- `K` (R20) -/
  colK : Nat
  /-- `OUTP` (R20, R23) -/
  outp : Nat
  /-- the configuration of R149 a BUSY core is in -/
  phase : Phase
  /-- the datapath registers (R21) -/
  dp : Datapath
  /-- `BAND` (R22): the slots written since the last release -/
  band : Store Tile
  /-- `OUT` (R23): the bytes written since `START` -/
  out : Memory
  /-- `S` (20_memory.md R32), a parameter of the run -/
  stream : Memory
  /-- the other parameters of the run (R27) -/
  par : Params
  /-- MODEL'S OWN (log entry 1): the moves the host is still going to make, the next one first -/
  host : List HostOp
  /-- MODEL'S OWN (log entry 1): what the last host read returned -/
  rdata : BitVec 64
  /-- MODEL'S OWN (log entry 5): index of the next free value -/
  freeCtr : Nat
deriving DecidableEq, Repr

/-- Why a step faults. -/
inductive Fault where
  /-- Raised by a host read of `OUT` in `DONE` at an address that does not exist, `addr >= W*H*3` (20_memory.md R30).
  Safe: the model stops where a platform might answer something (log entry 13). -/
  | outAddress (addr : Nat)
deriving DecidableEq, Repr

/-- Why a step is refused. -/
inductive Refusal where
  /-- Raised by `exec` for an instruction that has no meaning yet. Safe. -/
  | notModelled (mnemonic : String)
  /-- Raised when the host changes `S` while `BUSY`: "a duty, not checked; a model gives the host no such move"
  (20_memory.md R48, 93_implementation_defined.md U12). Safe (log entry 14). -/
  | streamChangedWhileBusy
deriving DecidableEq, Repr

/-- What the machine does next: run an instruction from a state, or something that is no instruction. -/
inductive Issue where
  /-- Run `i` at `s`. -/
  | run (i : Instr) (s : State)
  /-- The step is already made. -/
  | settled (o : Host.Outcome State Fault Refusal)

/-- The datapath at reset. The spec leaves every one "unspecified; never read before written" (R28);
DESIGN CHOICE, unsafe (log entry 3): zero, and `INDIVIDUAL` for `MODE`. -/
def Datapath.reset : Datapath where
  blk := 0
  mode := .individual
  base0 := ⟨0, 0, 0⟩
  base1 := ⟨0, 0, 0⟩
  co := ⟨0, 0, 0⟩
  ch := ⟨0, 0, 0⟩
  cv := ⟨0, 0, 0⟩
  ts0 := 0
  ts1 := 0
  flip := 0
  dsel := 0
  paint := ⟨⟨0, 0, 0⟩, ⟨0, 0, 0⟩, ⟨0, 0, 0⟩, ⟨0, 0, 0⟩⟩
  pix := ⟨⟨0, 0, 0⟩, ⟨0, 0, 0⟩, ⟨0, 0, 0⟩, ⟨0, 0, 0⟩, ⟨0, 0, 0⟩, ⟨0, 0, 0⟩, ⟨0, 0, 0⟩, ⟨0, 0, 0⟩,
          ⟨0, 0, 0⟩, ⟨0, 0, 0⟩, ⟨0, 0, 0⟩, ⟨0, 0, 0⟩, ⟨0, 0, 0⟩, ⟨0, 0, 0⟩, ⟨0, 0, 0⟩, ⟨0, 0, 0⟩⟩

/-- The machine right after reset (10_state.md R28, 70_reset_and_hazards.md R170), before the host has done anything.
`BAND` and `OUT` are unspecified: nothing listed. -/
def State.reset : State where
  reqWidth := 0
  reqHeight := 0
  streamLen := 0
  status := .idle
  errKind := .none
  errRequired := 0
  errAvailable := 0
  resWidth := 0
  resHeight := 0
  pos := 0
  w := 0
  h := 0
  xb := 0
  yb := 0
  bandY := 0
  blockX := 0
  rowJ := 0
  colK := 0
  outp := 0
  phase := .read
  dp := Datapath.reset
  band := []
  out := []
  stream := []
  par := runParams
  host := []
  rdata := 0
  freeCtr := 0

end Sys2Proof.Machine
end

