-- ==== Sys2Proof/Machine/Ops.lean ====
section
/-!
DEFINITION. The named operations over the state: the address spaces (spec/20_memory.md), the host-interface registers,
the error entry (spec/60_exceptions.md R155) and return from it, the entry of `START` and the size resolution
(spec/45_assembler.md R131 to R137).
-/

namespace Sys2Proof.Machine

/-! ### Sparse stores, the stream, OUT and BAND -/

/-- The value at a key, if one is listed. -/
def Store.read {α : Type} : Store α → Nat → Option α
  | [], _ => none
  | (a', v) :: m, a => if a = a' then some v else Store.read m a

/-- Write of a key, replacing whatever was there, keeping the keys strictly rising. -/
def Store.write {α : Type} : Store α → Nat → α → Store α
  | [], a, v => [(a, v)]
  | (a', v') :: m, a, v =>
    if a < a' then (a, v) :: (a', v') :: m
    else if a = a' then (a, v) :: m
    else (a', v') :: Store.write m a v

/-- The byte at an address of a byte space. -/
def byteAt (m : Memory) (a : Nat) : Option Byte := Store.read m a

/-- `MemRead(space, addr, n)`: the bytes at `addr`, `addr+1`, ..., `n` of them or fewer when the space ends first (R33). -/
def memRead (m : Memory) (addr : Nat) : Nat → List Byte
  | 0 => []
  | n + 1 =>
    match byteAt m addr with
    | some b => b :: memRead m (addr + 1) n
    | none => []

/-- `MemWrite(space, addr, n, v)`: the bytes `v` at `addr`, `addr+1`, ... (R35). -/
def memWrite (m : Memory) (addr : Nat) : List Byte → Memory
  | [] => m
  | b :: bs => memWrite (Store.write m addr b) (addr + 1) bs

/-- A byte space that holds exactly the bytes `bs` from address `addr` up. -/
def memOfBytes (addr : Nat) : List Byte → Memory
  | [] => []
  | b :: bs => (addr, b) :: memOfBytes (addr + 1) bs

/-- `BAND[x] <- d` (R34). -/
def bandWrite (m : Store Tile) (x : Nat) (d : Tile) : Store Tile := Store.write m x d

/-- `BAND[x][i]` (R34); `none` where the slot holds nothing or `i` is above 15. -/
def bandPixel (m : Store Tile) (x i : Nat) : Option Pixel :=
  match Store.read m x with
  | some d => tileGet d i
  | none => none

/-! ### Arithmetic of sizes (spec/00_scope.md R7) -/

/-- `ceil4(n) = (n + 3) div 4`. -/
def ceil4 (n : Nat) : Nat := (n + 3) / 4

/-- The bits of the square root, from bit `k-1` down, added to the partial root `r`. -/
def isqrtGo (n : Nat) : Nat → Nat → Nat
  | 0, r => r
  | k + 1, r => if (r + 2 ^ k) * (r + 2 ^ k) ≤ n then isqrtGo n k (r + 2 ^ k) else isqrtGo n k r

/-- `isqrt(n)`, the greatest natural `r` with `r*r <= n`. -/
def isqrt (n : Nat) : Nat := isqrtGo n (n.log2 / 2 + 1) 0

/-! ### The host-interface registers (spec/10_state.md R11, spec/20_memory.md R36) -/

/-- The code of `STATUS.STATE` (R16). -/
def statusCode : RunState → BitVec 2
  | .idle => 0
  | .busy => 1
  | .done => 2
  | .error => 3

/-- The code of `ERR_KIND.KIND` (60_exceptions.md R150). -/
def errCode : ErrKind → BitVec 3
  | .none => 0
  | .invalidResolution => 1
  | .shortRead => 2
  | .allocationFailure => 3
  | .unrecognizedMode => 4

/-- A host read of register `reg`: the whole register, zero-extended to 64 bits; `CTRL` reads 0, reserved bits read 0,
a number above 9 reads 0 (R11, R36). While `BUSY` too, where "only STATUS is meaningful" (R48; DEDUCED, unsafe: log entry 17). -/
def csrRead (s : State) (reg : Nat) : BitVec 64 :=
  match reg with
  | 0 => s.reqWidth.setWidth 64
  | 1 => s.reqHeight.setWidth 64
  | 2 => s.streamLen
  | 3 => 0
  | 4 => (statusCode s.status).setWidth 64
  | 5 => (errCode s.errKind).setWidth 64
  | 6 => s.errRequired
  | 7 => s.errAvailable
  | 8 => s.resWidth.setWidth 64
  | 9 => s.resHeight.setWidth 64
  | _ => 0

/-- A host write of a register other than `CTRL`: ignored while `BUSY` (R12, R13, D18); a read-only register and a number
above 9 write nothing (R11, R36). A 32-bit register takes the low 32 bits (log entry 12). -/
def csrWrite (s : State) (reg : Nat) (v : BitVec 64) : State :=
  if s.status = .busy then s
  else
    match reg with
    | 0 => { s with reqWidth := v.setWidth 32 }
    | 1 => { s with reqHeight := v.setWidth 32 }
    | 2 => { s with streamLen := v }
    | _ => s

/-! ### Error entry and the way out of an error -/

/-- `raise Kind(required, available)`, the error entry (60_exceptions.md R155): the three error registers and `STATUS`;
`OUT` and `BAND` become unspecified (nothing listed); `POS`, `OUTP`, the counters and `RES_*` keep what they had.
A number that does not fit the register is cut to it (log entry 10; in no state of a run). -/
def raise (s : State) (kind : ErrKind) (required available : Nat) : State :=
  { s with
    errKind := kind
    errRequired := BitVec.ofNat 64 required
    errAvailable := BitVec.ofNat 64 available
    status := .error
    band := []
    out := [] }

/-- The first step of `START` (45_assembler.md R131): the only way out of `ERROR` besides reset (60_exceptions.md R159).
`OUT` and `BAND` are unspecified from here (nothing listed). `W`, `H`, `XB` and `YB`, which R131 does not clear, keep what the
last decode left until `publish` (DESIGN CHOICE, unsafe: log entry 19). -/
def startEntry (s : State) : State :=
  { s with
    status := .busy
    errKind := .none
    errRequired := 0
    errAvailable := 0
    resWidth := 0
    resHeight := 0
    pos := 0
    outp := 0
    bandY := 0
    blockX := 0
    rowJ := 0
    colK := 0
    phase := .read
    band := []
    out := [] }

/-- Reset applied by the host (70_reset_and_hazards.md R170): every piece of the core's state at its reset value.
What belongs to the host or the run stays: its moves, `S`, the parameters, what it last read, the free-value counter
(log entry 15). -/
def resetCore (s : State) : State :=
  { State.reset with stream := s.stream, par := s.par, host := s.host, rdata := s.rdata, freeCtr := s.freeCtr }

/-! ### Resolution inference and the checks (spec/45_assembler.md R132 to R137) -/

/-- `total`, the available blocks: `csr[STREAM_LEN] div 8` (R132). -/
def totalBlocks (len : Nat) : Nat := len / 8

/-- `W` (R132). -/
def resolveWidth (reqw len : Nat) : Nat :=
  if reqw = 0 then 4 * isqrt (totalBlocks len) else reqw

/-- `H` (R133); `none` where the height inference divides by zero. -/
def resolveHeight (reqh w len : Nat) : Option Nat :=
  if reqh = 0 then
    if ceil4 w = 0 then none else some (4 * (totalBlocks len / ceil4 w))
  else some reqh

/-- Publication of the resolved size (R134). The sequencer registers `W` and `H`, "copies of `RES_WIDTH`, `RES_HEIGHT`"
(10_state.md R20), are written with it: no rule says when they are (DESIGN CHOICE, unsafe: log entry 19). -/
def publish (s : State) (w h : Nat) : State :=
  { s with
    w := w
    h := h
    xb := ceil4 w
    yb := ceil4 h
    resWidth := BitVec.ofNat 32 w
    resHeight := BitVec.ofNat 32 h }

/-- Whether `n` is more than a capacity allows (R137). -/
def exceeds (cap : Option Nat) (n : Nat) : Bool :=
  match cap with
  | none => false
  | some c => c < n

/-- `required = XB * YB * 8` (R135). -/
def requiredBytes (w h : Nat) : Nat := ceil4 w * ceil4 h * 8

/-! ### OUT -/

/-- An emitted pixel: `MemWrite(OUT, OUTP, 3, (p.R, p.G, p.B))`, `OUTP <- OUTP + 3` (45_assembler.md R145). -/
def appendPixel (s : State) (p : Pixel) : State :=
  { s with out := memWrite s.out s.outp [p.r, p.g, p.b], outp := s.outp + 3 }

end Sys2Proof.Machine
end

