-- ==== Sys2Proof/Machine/Control.lean ====
section
/-!
DEFINITION. What a step does around an instruction: the host's moves (spec/20_memory.md R36, R48), the block read
(spec/45_assembler.md R140, R142), the store into `BAND` (R141), the emission (R143 to R145), the release (R146) and the
completion (R147). Granularity as R149 allows: one step per block read, one per pixel visit, loop exits taken at once.
-/

namespace Sys2Proof.Machine

/-! ### The traversal -/

/-- After a block is stored: the next block of the band, or the emission of the band (R140, R143). -/
def afterBlock (s : State) : State :=
  if s.blockX + 1 < s.xb then { s with blockX := s.blockX + 1 }
  else { s with phase := .emit, rowJ := 0, blockX := 0, colK := 0 }

/-- After the last pixel of a band: release (R146), then the next band, or completion (R147). The spec gives `J` and `K` no value
once the loops of R143 are over, neither while the next band is read, and so after a `ShortRead` there, nor in `DONE`, and `BX` and
`BY` none in `DONE`: the model puts `J`, `K` and `BX` back to 0 and leaves `BY` at `YB` (DESIGN CHOICE, unsafe: log entry 2). -/
def afterBand (s : State) : State :=
  if s.bandY + 1 < s.yb then
    { s with band := [], rowJ := 0, blockX := 0, colK := 0, bandY := s.bandY + 1, phase := .read }
  else
    { s with band := [], rowJ := 0, blockX := 0, colK := 0, bandY := s.bandY + 1, status := .done }

/-- After a pixel visit: the three loops `J`, `BX`, `K`, `K` innermost (R143). -/
def afterPixel (s : State) : State :=
  if s.colK + 1 < 4 then { s with colK := s.colK + 1 }
  else if s.blockX + 1 < s.xb then { s with colK := 0, blockX := s.blockX + 1 }
  else if s.rowJ + 1 < 4 then { s with colK := 0, blockX := 0, rowJ := s.rowJ + 1 }
  else afterBand s

/-- `BAND[BX] <- PIX`, and on (R141). -/
def storeBlock (s : State) : State :=
  afterBlock { s with band := bandWrite s.band s.blockX s.dp.pix }

/-- What follows an instruction in the same step: a block's pixels go to `BAND`; `START` has nothing to follow. -/
def retire (i : Instr) (s : State) : State :=
  match i with
  | .individual _ => storeBlock s
  | .differential _ => storeBlock s
  | .t _ => storeBlock s
  | .h _ => storeBlock s
  | .planar _ => storeBlock s
  | .start _ => s

/-- Whether the pixel at `(BX*4 + K, BY*4 + J)` is inside the image (R144). -/
def inImage (s : State) : Bool :=
  decide (s.blockX * 4 + s.colK < s.w) && decide (s.bandY * 4 + s.rowJ < s.h)

/-- A pixel that is emitted or, as padding, discarded (R144, R145). -/
def emitPixel (s : State) (p : Pixel) : State :=
  afterPixel (if inImage s then appendPixel s p else s)

/-- One pixel visit `EMIT(BY, J, BX, K)`: `p = BAND[BX][K*4 + J]` (R144). A slot that holds nothing is unspecified (R22), and no
run reads one: then `p` is a free value (log entry 5). -/
def visitPixel (s : State) : State :=
  match bandPixel s.band s.blockX (s.colK * 4 + s.rowJ) with
  | some p => emitPixel s p
  | none => emitPixel { s with freeCtr := s.freeCtr + 1 } (Config.freePixel s.freeCtr)

/-- One block read `READ(BY, BX)`: 8 bytes at `POS`, then `BLK` and `POS` are written and the block is an instruction
(R140); fewer than 8 are a `ShortRead` (R142). -/
def fetchBlock (s : State) : Issue :=
  match blockOfBytes (memRead s.stream s.pos Config.blockBytes) with
  | some w => .run (decodeBlock s.par.layout w) { s with pos := s.pos + 8, dp := { s.dp with blk := w } }
  | none => .settled (.next (raise s .shortRead (s.pos + 8) (s.pos + (memRead s.stream s.pos Config.blockBytes).length)))

/-- The core's turn. In `IDLE`, `DONE` and `ERROR` "no state changes until the host acts" (60_exceptions.md R166). -/
def coreTurn (s : State) : Issue :=
  match s.status with
  | .idle => .settled (.next s)
  | .done => .settled (.next s)
  | .error => .settled (.next s)
  | .busy =>
    match s.phase with
    | .read => fetchBlock s
    | .emit => .settled (.next (visitPixel s))

/-! ### The host's moves -/

/-- A host write: to `CTRL` with bit 0 set it is the instruction `START`; with bit 0 clear it does nothing (10_state.md R15). -/
def hostWrite (s : State) (reg : Nat) (v : BitVec 64) : Issue :=
  if reg = 3 then
    match decode s.par.layout (.ctrl (v.setWidth 32)) with
    | .ok i => .run i s
    | .error _ => .settled (.next s)
  else .settled (.next (csrWrite s reg v))

/-- A host read of `OUT` that the spec leaves unspecified: a free byte (70_reset_and_hazards.md R176, log entry 5). -/
def readUnspecified (s : State) : State :=
  { s with rdata := (Config.freeByte s.freeCtr).setWidth 64, freeCtr := s.freeCtr + 1 }

/-- A host read of the byte of `OUT` at `addr`: in `DONE` the image byte, elsewhere an unspecified byte (20_memory.md R48);
in `DONE` an address of `W*H*3` or more does not exist (R30, log entry 13). -/
def hostReadOut (s : State) (addr : Nat) : Host.Outcome State Fault Refusal :=
  if s.status = .done then
    if addr < s.w * s.h * 3 then
      match byteAt s.out addr with
      | some b => .next { s with rdata := b.setWidth 64 }
      | none => .next (readUnspecified s)
    else .fault (.outAddress addr)
  else .next (readUnspecified s)

/-- The host supplies `S`: allowed except while `BUSY` (R48; log entry 14). -/
def hostSupply (s : State) (bytes : List Byte) : Host.Outcome State Fault Refusal :=
  if s.status = .busy then .refused .streamChangedWhileBusy
  else .next { s with stream := memOfBytes 0 bytes }

/-- Whose turn it is, and what it does: the host's next move, or the core where the host has none or waits. -/
def issue (s : State) : Issue :=
  match s.host with
  | [] => coreTurn s
  | .wait :: rest => coreTurn { s with host := rest }
  | .awaitNotBusy :: rest => if s.status = .busy then coreTurn s else .settled (.next { s with host := rest })
  | .write reg v :: rest => hostWrite { s with host := rest } reg v
  | .read reg :: rest => .settled (.next { s with host := rest, rdata := csrRead s reg })
  | .readOut addr :: rest => .settled (hostReadOut { s with host := rest } addr)
  | .supply bytes :: rest => .settled (hostSupply { s with host := rest } bytes)
  | .reset :: rest => .settled (.next (resetCore { s with host := rest }))

/-! ### Placing one instruction -/

/-- `s` with the 64-bit block `w` as the next thing the core reads: as after a `START(4, 4, 8)` that was accepted with
`w` as the whole stream (log entry 16). -/
def placeBlock (s : State) (w : Block) : State :=
  { publish (startEntry s) 4 4 with
    reqWidth := 4, reqHeight := 4, streamLen := 8, stream := memOfBytes 0 (bytesOfBlock w), host := [] }

/-- `s` with a `CTRL` write of `v` as the host's next move. -/
def placeCtrl (s : State) (v : BitVec 32) : State :=
  { s with host := .write 3 (v.setWidth 64) :: s.host }

/-- `s` with the opcode-table word `w` of `nbits` bits where the next step takes it from. -/
def placeWord (s : State) (nbits w : Nat) : State :=
  if nbits = 64 then placeBlock s (BitVec.ofNat 64 w)
  else if nbits = 32 then placeCtrl s (BitVec.ofNat 32 w)
  else s

end Sys2Proof.Machine
end

