-- ==== Sys2Proof/Machine/Reconstruct.lean ====
section
/-!
DEFINITION. PixelReconstructor (spec/42_etc1_family.md, 43_th_modes.md, 44_planar.md): the pure functions from colours,
selectors and index planes to the 16 pixels, and `DECODE_BLOCK` (spec/41_mode_dispatch.md R93).
-/

namespace Sys2Proof.Machine

/-- `SUBBLOCK(FLIP, i)`: `i[3]` unflipped, `i[1]` flipped (R102); `true` is sub-block 1. -/
def subblock (flip : BitVec 1) (i : Nat) : Bool :=
  if flip = 0 then i.testBit 3 else i.testBit 1

/-- `RECON_ETC1()` (R103). -/
def reconEtc1 (cw : CodewordTable) (base0 base1 : Pixel) (ts0 ts1 : BitVec 3) (flip : BitVec 1)
    (idxHi idxLo : BitVec 16) : Tile :=
  tileOf fun i =>
    let sb := subblock flip i
    let base := if sb then base1 else base0
    let ts := if sb then ts1 else ts0
    clampAdd3 base (cwGet cw ts (pixelIndex idxHi idxLo i))

/-- `PAINT_T()` with distance `d` (R112). -/
def paintT (base0 base1 : Pixel) (d : Nat) : Paints :=
  ⟨base0, clampAdd3 base1 d, base1, clampAdd3 base1 (-(d : Int))⟩

/-- `PAINT_H()` with distance `d` (R113). -/
def paintH (base0 base1 : Pixel) (d : Nat) : Paints :=
  ⟨clampAdd3 base0 d, clampAdd3 base0 (-(d : Int)), clampAdd3 base1 d, clampAdd3 base1 (-(d : Int))⟩

/-- `SELECT_PAINT()` (R114). -/
def selectPaint (p : Paints) (idxHi idxLo : BitVec 16) : Tile :=
  tileOf fun i => paintGet p (pixelIndex idxHi idxLo i)

/-- One channel of a `PLANAR` pixel at multipliers `x`, `y`:
`clamp255((x*(H-O) + y*(V-O) + 4*O + 2) >> 2)`; the shift is floor division by 4 (R122, R6). -/
def planarChannel (x y : Nat) (o h v : Channel) : Channel :=
  clamp255 (((x : Int) * ((h.toNat : Int) - o.toNat) + (y : Int) * ((v.toNat : Int) - o.toNat) + 4 * o.toNat + 2) / 4)

/-- `RECON_PLANAR()` with coordinate base `base` (R121, R122). -/
def reconPlanar (base : Nat) (co ch cv : Pixel) : Tile :=
  tileOf fun i =>
    let x := i / 4 + base
    let y := i % 4 + base
    ⟨planarChannel x y co.r ch.r cv.r, planarChannel x y co.g ch.g cv.g, planarChannel x y co.b ch.b cv.b⟩

/-- The 16 pixels of an `INDIVIDUAL` block. -/
def individualTile (par : Params) (f : IndividualFields) : Tile :=
  reconEtc1 par.cw (individualBase0 f) (individualBase1 f) f.ts0 f.ts1 f.flip f.idxHi f.idxLo

/-- The 16 pixels of a `DIFFERENTIAL` block. -/
def differentialTile (par : Params) (f : DifferentialFields) : Tile :=
  reconEtc1 par.cw (differentialBase0 f) (differentialBase1 f) f.ts0 f.ts1 f.flip f.idxHi f.idxLo

/-- The paint colours of a `T` block. -/
def tPaints (par : Params) (f : TFields) : Paints := paintT (tBase0 f) (tBase1 f) (dtGet par.dt (tDsel f))

/-- The paint colours of an `H` block. -/
def hPaints (par : Params) (f : HFields) : Paints := paintH (hBase0 f) (hBase1 f) (dtGet par.dt (hDsel f))

/-- The 16 pixels of a `PLANAR` block. -/
def planarTile (par : Params) (f : PlanarFields) : Tile :=
  reconPlanar par.planarBase (planarO f) (planarH f) (planarV f)

/-- `DECODE_BLOCK(BLK)`, a total pure function of the block and the constants (R93). -/
def decodeTile (par : Params) (w : Block) : Tile :=
  match modeOf par.layout w with
  | .individual => individualTile par (individualFieldsOf par.layout.individual w)
  | .differential => differentialTile par (differentialFieldsOf par.layout.differential w)
  | .t => selectPaint (tPaints par (tFieldsOf par.layout.t w)) (tFieldsOf par.layout.t w).idxHi (tFieldsOf par.layout.t w).idxLo
  | .h => selectPaint (hPaints par (hFieldsOf par.layout.h w)) (hFieldsOf par.layout.h w).idxHi (hFieldsOf par.layout.h w).idxLo
  | .planar => planarTile par (planarFieldsOf par.layout.planar w)

end Sys2Proof.Machine
end

