-- ==== Sys2Proof/Machine/Etc1.lean ====
section
/-!
DEFINITION. The ETC1 family: `INDIVIDUAL` and `DIFFERENTIAL` (spec/42_etc1_family.md R104, R105).
-/

namespace Sys2Proof.Machine

/-- What both instructions of the family write: `MODE`, `BASE0`, `BASE1`, `TS0`, `TS1`, `FLIP`, `PIX` (R104, R105). -/
def writeEtc1 (s : State) (mode : Mode) (base0 base1 : Pixel) (ts0 ts1 : BitVec 3) (flip : BitVec 1) (pix : Tile) : State :=
  { s with dp := { s.dp with
    mode := mode, base0 := base0, base1 := base1, ts0 := ts0, ts1 := ts1, flip := flip, pix := pix } }

/-- `INDIVIDUAL` (R104): `FIELDS_INDIVIDUAL` (R88), then `RECON_ETC1` (R103). -/
def execIndividual (f : IndividualFields) (s : State) : Host.Outcome State Fault Refusal :=
  .next (writeEtc1 s .individual (individualBase0 f) (individualBase1 f) f.ts0 f.ts1 f.flip (individualTile s.par f))

/-- `DIFFERENTIAL` (R105): `FIELDS_DIFFERENTIAL` (R89), then `RECON_ETC1` (R103). -/
def execDifferential (f : DifferentialFields) (s : State) : Host.Outcome State Fault Refusal :=
  .next (writeEtc1 s .differential (differentialBase0 f) (differentialBase1 f) f.ts0 f.ts1 f.flip (differentialTile s.par f))

end Sys2Proof.Machine
end

