-- ==== Sys2Proof/Machine/PaintModes.lean ====
section
/-!
DEFINITION. The paint-colour modes `T` and `H` (spec/43_th_modes.md R115, R116).
-/

namespace Sys2Proof.Machine

/-- What both instructions write: `MODE`, `BASE0`, `BASE1`, `DSEL`, `PAINT`, `PIX` (R115, R116). -/
def writePaint (s : State) (mode : Mode) (base0 base1 : Pixel) (dsel : BitVec 3) (paint : Paints) (pix : Tile) : State :=
  { s with dp := { s.dp with
    mode := mode, base0 := base0, base1 := base1, dsel := dsel, paint := paint, pix := pix } }

/-- `T` (R115): `FIELDS_T` (R90), `PAINT_T` (R112), `SELECT_PAINT` (R114). -/
def execT (f : TFields) (s : State) : Host.Outcome State Fault Refusal :=
  .next (writePaint s .t (tBase0 f) (tBase1 f) (tDsel f) (tPaints s.par f) (selectPaint (tPaints s.par f) f.idxHi f.idxLo))

/-- `H` (R116): `FIELDS_H` (R91), `PAINT_H` (R113), `SELECT_PAINT` (R114). -/
def execH (f : HFields) (s : State) : Host.Outcome State Fault Refusal :=
  .next (writePaint s .h (hBase0 f) (hBase1 f) (hDsel f) (hPaints s.par f) (selectPaint (hPaints s.par f) f.idxHi f.idxLo))

end Sys2Proof.Machine
end

