-- ==== Sys2Proof/Machine/Planar.lean ====
section
/-!
DEFINITION. The interpolating mode `PLANAR` (spec/44_planar.md R122).
-/

namespace Sys2Proof.Machine

/-- What the instruction writes: `MODE`, `CO`, `CH`, `CV`, `PIX` (R122). -/
def writePlanar (s : State) (co ch cv : Pixel) (pix : Tile) : State :=
  { s with dp := { s.dp with mode := .planar, co := co, ch := ch, cv := cv, pix := pix } }

/-- `PLANAR` (R122): `FIELDS_PLANAR` (R92), then `RECON_PLANAR`. -/
def execPlanar (f : PlanarFields) (s : State) : Host.Outcome State Fault Refusal :=
  .next (writePlanar s (planarO f) (planarH f) (planarV f) (planarTile s.par f))

end Sys2Proof.Machine
end

