-- ==== Sys2Proof/Machine/Start.lean ====
section
/-!
DEFINITION. The host command `START` (spec/45_assembler.md R130 to R138), up to the first configuration of the traversal;
the traversal itself (R139 to R147) is made by the steps that follow, in Sys2Proof/Machine/Control.lean (R149, log entry 2).
-/

namespace Sys2Proof.Machine

/-- The traversal begins: `READ(0, 0)`, or `DONE` at once where there is no block to read (R147, R148 (e)). There `BY` stays at 0,
below `YB` where only the width is 0: the spec gives no end value (DESIGN CHOICE, unsafe: log entry 2). -/
def beginTraversal (s : State) : State :=
  if s.xb * s.yb = 0 then { s with status := .done } else s

/-- The checks once both dimensions are resolved, in the order of R136: fit in 32 bits (R134), publication (R134),
length (R135), capacity (R137). An abort at the fit test comes before the publication and so leaves `W`, `H`, `XB` and `YB` as they
were (DESIGN CHOICE, unsafe: log entry 19). -/
def checkAndBegin (s : State) (w h len : Nat) : State :=
  if 2 ^ Config.dimW ≤ w ∨ 2 ^ Config.dimW ≤ h then raise s .invalidResolution 0 len
  else if len < requiredBytes w h then raise (publish s w h) .invalidResolution (requiredBytes w h) len
  else if exceeds s.par.bandCapacity (ceil4 w) || exceeds s.par.outCapacity (w * h * 3) then
    raise (publish s w h) .allocationFailure 0 0
  else beginTraversal (publish s w h)

/-- The body of `START` after its entry: resolution inference (R132, R133), then the checks. An abort at the zero divisor of R133
leaves `W`, `H`, `XB` and `YB` as they were (DESIGN CHOICE, unsafe: log entry 19). -/
def resolveAndCheck (s : State) : State :=
  match resolveHeight s.reqHeight.toNat (resolveWidth s.reqWidth.toNat s.streamLen.toNat) s.streamLen.toNat with
  | none => raise s .invalidResolution 0 s.streamLen.toNat
  | some h => checkAndBegin s (resolveWidth s.reqWidth.toNat s.streamLen.toNat) h s.streamLen.toNat

/-- `START` (R130): accepted in `IDLE`, `DONE` and `ERROR`; "A write while `BUSY` is ignored" (10_state.md R15).
Bits 31:1 of the written value are ignored (30_encoding.md R62). -/
def execStart (_ignored : BitVec 31) (s : State) : Host.Outcome State Fault Refusal :=
  .next (if s.status = .busy then s else resolveAndCheck (startEntry s))

end Sys2Proof.Machine
end

