-- ==== Sys2Proof/Machine/Dispatch.lean ====
section
/-!
DEFINITION. The dispatch: one arm per instruction, each one direct call of its meaning.
-/

namespace Sys2Proof.Machine

def exec (i : Instr) (s : State) : Host.Outcome State Fault Refusal :=
  match i with
  | .individual f => Sys2Proof.Machine.execIndividual f s
  | .differential f => Sys2Proof.Machine.execDifferential f s
  | .t f => Sys2Proof.Machine.execT f s
  | .h f => Sys2Proof.Machine.execH f s
  | .planar f => Sys2Proof.Machine.execPlanar f s
  | .start ignored => Sys2Proof.Machine.execStart ignored s

end Sys2Proof.Machine
end

