-- ==== Sys2Proof/Machine/Step.lean ====
section
/-!
DEFINITION. One step of the machine: what `issue` says is next, and around an instruction what `retire` says follows it.
-/

namespace Sys2Proof.Machine

def step (s : State) : Host.Outcome State Fault Refusal :=
  match issue s with
  | .settled o => o
  | .run i s' =>
    match exec i s' with
    | .next t => .next (retire i t)
    | .fault r => .fault r
    | .refused r => .refused r

/-- `s` with one opcode-table instruction stored where `step` takes its next instruction from (log entry 16). -/
def State.withFetchWord (s : State) (nbits w : Nat) : State := placeWord s nbits w

end Sys2Proof.Machine
end

