-- ==== Sys2Proof/Safety.lean ====
section
/-!
DEFINITION. What statements about ETC2DEC are made of: the block and the pixel the spec expects at a place, the image of a
successful decode (spec/45_assembler.md R148), and the invariant of a run, configuration by configuration (R149).
-/

namespace Sys2Proof.Machine

/-- A step that neither faults nor is refused. -/
def Completes (o : Host.Outcome State Fault Refusal) : Prop := ∃ t, o = .next t

/-- The bytes of `S` stand at positions 0, 1, 2, ... with no gap (20_memory.md R32); `|S|` is then the list's length. -/
def Gapless (m : Memory) : Prop := m.map Prod.fst = List.range m.length

/-- Block `n` of the stream, at bytes `8n .. 8n+7` (20_memory.md R31); `none` where the stream ends first. -/
def streamBlock (m : Memory) (n : Nat) : Option Block := blockOfBytes (memRead m (8 * n) 8)

/-- The pixel `(x, y)` of the image that the stream and the parameters define (R148). -/
def expectedPixel (s : State) (x y : Nat) : Option Pixel :=
  match streamBlock s.stream (y / 4 * s.xb + x / 4) with
  | some w => tileGet (decodeTile s.par w) (x % 4 * 4 + y % 4)
  | none => none

/-- Three bytes R, G, B at pixel offset `q` of a byte space (20_memory.md R38). -/
def PixelAt (m : Memory) (q : Nat) (p : Pixel) : Prop :=
  byteAt m (3 * q) = some p.r ∧ byteAt m (3 * q + 1) = some p.g ∧ byteAt m (3 * q + 2) = some p.b

/-- `OUT` holds the whole image (R148). -/
def State.HoldsImage (s : State) : Prop :=
  ∀ x y, x < s.w → y < s.h → ∃ p, expectedPixel s x y = some p ∧ PixelAt s.out (y * s.w + x) p

/-- The resolved size: in range, published, and the block counts made from it (R134). -/
def State.SizesResolved (s : State) : Prop :=
  s.w < 2 ^ 32 ∧ s.h < 2 ^ 32 ∧ s.xb = ceil4 s.w ∧ s.yb = ceil4 s.h ∧
  s.resWidth = BitVec.ofNat 32 s.w ∧ s.resHeight = BitVec.ofNat 32 s.h

/-- No error is recorded. -/
def State.NoError (s : State) : Prop := s.errKind = .none ∧ s.errRequired = 0 ∧ s.errAvailable = 0

/-- What the checks of `START` establish for the rest of the decode (R135, R137). -/
def State.Admitted (s : State) : Prop :=
  s.xb * s.yb * 8 ≤ s.streamLen.toNat ∧ exceeds s.par.bandCapacity s.xb = false ∧
  exceeds s.par.outCapacity (s.w * s.h * 3) = false

/-- The slots of `BAND` below `n` hold the decoded blocks of the current band, and no other slot holds anything
(10_state.md R22). -/
def State.BandHolds (s : State) (n : Nat) : Prop :=
  Store.wf s.band ∧
  (∀ x, x < n → ∃ w, streamBlock s.stream (s.bandY * s.xb + x) = some w ∧ Store.read s.band x = some (decodeTile s.par w)) ∧
  (∀ x, n ≤ x → Store.read s.band x = none)

/-- How many pixels have been emitted in the configuration `s` is in: all rows above the current one, and of the current one
what is left of the current column (R143, R144). -/
def State.emitted (s : State) : Nat :=
  match s.phase with
  | .read => s.w * min s.h (4 * s.bandY)
  | .emit => s.w * min s.h (4 * s.bandY + s.rowJ) +
      (if 4 * s.bandY + s.rowJ < s.h then min s.w (4 * s.blockX + s.colK) else 0)

/-- `OUT` holds exactly the emitted pixels, each at its raster place, and `OUTP` counts their bytes (20_memory.md R35, R38). -/
def State.OutHolds (s : State) : Prop :=
  s.outp = 3 * s.emitted ∧ s.out.map Prod.fst = List.range s.outp ∧
  ∀ x y, x < s.w → y < s.h → y * s.w + x < s.emitted → ∃ p, expectedPixel s x y = some p ∧ PixelAt s.out (y * s.w + x) p

/-- The configuration `READ(BY, BX)` (R149), which names no `J` and no `K`: that they are 0 in it is, for a band after the first, the
model's choice (DESIGN CHOICE, unsafe: log entry 2). -/
def State.Reading (s : State) : Prop :=
  s.bandY < s.yb ∧ s.blockX < s.xb ∧ s.rowJ = 0 ∧ s.colK = 0 ∧ s.pos = 8 * (s.bandY * s.xb + s.blockX) ∧
  s.BandHolds s.blockX

/-- The configuration `EMIT(BY, J, BX, K)` (R149). -/
def State.Emitting (s : State) : Prop :=
  s.bandY < s.yb ∧ s.blockX < s.xb ∧ s.rowJ < 4 ∧ s.colK < 4 ∧ s.pos = 8 * (s.bandY * s.xb + s.xb) ∧ s.BandHolds s.xb

/-- The invariant of the machine, by `STATUS.STATE` (10_state.md R29). -/
def State.Inv (s : State) : Prop :=
  Gapless s.stream ∧
  match s.status with
  | .idle => s.NoError ∧ s.resWidth = 0 ∧ s.resHeight = 0 ∧ s.band = [] ∧ s.out = []
  | .busy => s.NoError ∧ s.SizesResolved ∧ s.Admitted ∧ s.OutHolds ∧
      (match s.phase with | .read => s.Reading | .emit => s.Emitting)
  | .done => s.NoError ∧ s.SizesResolved ∧ s.pos = 8 * (s.xb * s.yb) ∧ s.outp = s.w * s.h * 3 ∧
      s.out.map Prod.fst = List.range s.outp ∧ s.band = []
  | .error => (s.errKind = .invalidResolution ∨ s.errKind = .shortRead ∨ s.errKind = .allocationFailure) ∧
      s.band = [] ∧ s.out = []

/-- The three memories are in their canonical form. -/
def State.MemoryForm (s : State) : Prop := Memory.wf s.stream ∧ Memory.wf s.out ∧ Store.wf s.band

/-- `W` as `START` resolves it from the three parameter registers (R132). -/
def State.askedWidth (s : State) : Nat := resolveWidth s.reqWidth.toNat s.streamLen.toNat

/-- `H` as `START` resolves it; `none` where its inference divides by zero (R133). -/
def State.askedHeight (s : State) : Option Nat := resolveHeight s.reqHeight.toNat s.askedWidth s.streamLen.toNat

/-- It is the core's turn: the host has no further move, or waits for one step, or waits for the end of a running decode;
`rest` are the moves that remain after the step. -/
def State.CoreTurn (s : State) (rest : List HostOp) : Prop :=
  s.host = [] ∧ rest = [] ∨ s.host = .wait :: rest ∨
    s.status = .busy ∧ rest = s.host ∧ ∃ later, s.host = .awaitNotBusy :: later

/-- Two states that differ at most in what no decode can observe: the datapath registers between blocks, the host's last
read, and the free-value counter (10_state.md R26). -/
def SameDecode (a b : State) : Prop := b = { a with dp := b.dp, rdata := b.rdata, freeCtr := b.freeCtr }

end Sys2Proof.Machine
end

