-- ==== Sys2Proof/WellFormed.lean ====
section
/-!
DEFINITION. When a field form names an instruction (spec/30_encoding.md R63): "The field form names a block only if the
mode map of rule R59 selects the named mode for the assembled bits; otherwise it is ill-formed."
-/

namespace Sys2Proof

/-- The well-formedness check, one arm per instruction. -/
def Instr.wf (l : Layout) : Instr → Bool
  | .individual f => modeOf l (individualWord l.individual f) = .individual
  | .differential f => modeOf l (differentialWord l.differential f) = .differential
  | .t f => modeOf l (tWord l.t f) = .t
  | .h f => modeOf l (hWord l.h f) = .h
  | .planar f => modeOf l (planarWord l.planar f) = .planar
  | .start _ => true

end Sys2Proof
end

