-- ==== Sys2Proof/Certificates/Slice0/Obligations.lean ====
section
/-!
DEFINITION. The statements for the provers, each from the rules of spec/ that its docstring names.
-/

open Sys2Proof Sys2Proof.Machine

/-! ### ColorMath (spec/40_colormath.md) -/

/-- R70 to R72, and the formula of R73: the four extensions by their shift formulas, masked to 8 bits, with the round trip and
the corner values. (Another sentence of R73 gives 7 bits from 64 up as `2v - 255`, true mod 256 only: log entry 11.) -/
def Obligations.ExtensionsReplicateHighBits : Prop :=
  (∀ v : BitVec 4, (ext4 v).toNat = ((v.toNat <<< 4) ||| v.toNat) % 256 ∧ (ext4 v).toNat = 17 * v.toNat ∧
    (ext4 v).toNat >>> 4 = v.toNat) ∧
  (∀ v : BitVec 5, (ext5 v).toNat = ((v.toNat <<< 3) ||| (v.toNat >>> 2)) % 256 ∧ (ext5 v).toNat >>> 3 = v.toNat) ∧
  (∀ v : BitVec 6, (ext6 v).toNat = ((v.toNat <<< 2) ||| (v.toNat >>> 4)) % 256 ∧ (ext6 v).toNat >>> 2 = v.toNat) ∧
  (∀ v : BitVec 7, (ext7 v).toNat = ((v.toNat <<< 1) ||| (v.toNat >>> 6)) % 256 ∧ (ext7 v).toNat >>> 1 = v.toNat) ∧
  ext4 0 = 0 ∧ ext4 15 = 255 ∧ ext5 0 = 0 ∧ ext5 31 = 255 ∧ ext6 0 = 0 ∧ ext6 63 = 255 ∧ ext7 0 = 0 ∧ ext7 127 = 255

/-- R79 (b), (e): each extension is strictly increasing; `CLAMPADD` is non-decreasing in both operands. -/
def Obligations.ColorMathIsMonotone : Prop :=
  (∀ u v : BitVec 4, u < v → ext4 u < ext4 v) ∧ (∀ u v : BitVec 5, u < v → ext5 u < ext5 v) ∧
  (∀ u v : BitVec 6, u < v → ext6 u < ext6 v) ∧ (∀ u v : BitVec 7, u < v → ext7 u < ext7 v) ∧
  (∀ (a b : Channel) (c d : Int), a ≤ b → c ≤ d → clampAdd a c ≤ clampAdd b d)

/-- R74: the 8-bit sum of the sign-extended delta and the base, wrapping mod 256, and its three ranges by bits 7:5. -/
def Obligations.SignedAddWrapsAtEightBits : Prop :=
  ∀ (delta : BitVec 3) (base : BitVec 5),
    ((adds3to5 delta base).toNat : Int) = ((base.toNat : Int) + delta.toInt) % 256 ∧
    (0 ≤ (base.toNat : Int) + delta.toInt ∧ (base.toNat : Int) + delta.toInt ≤ 31 →
      ((adds3to5 delta base).toNat : Int) = base.toNat + delta.toInt ∧ (adds3to5 delta base).extractLsb' 5 3 = 0) ∧
    ((base.toNat : Int) + delta.toInt < 0 →
      252 ≤ (adds3to5 delta base).toNat ∧ (adds3to5 delta base).extractLsb' 5 3 = 7) ∧
    (31 < (base.toNat : Int) + delta.toInt →
      ((adds3to5 delta base).toNat : Int) = base.toNat + delta.toInt ∧ (adds3to5 delta base).extractLsb' 5 3 = 1)

/-- R75: the overflow predicate is the test of bits 7:5, the range test of the exact sum, and the list of the 16 pairs. -/
def Obligations.OverflowTestFiresOnSixteenPairs : Prop :=
  ∀ (base : BitVec 5) (delta : BitVec 3),
    (ovf5 base delta = true ↔ (adds3to5 delta base).extractLsb' 5 3 ≠ 0) ∧
    (ovf5 base delta = true ↔ (base.toNat : Int) + delta.toInt < 0 ∨ 31 < (base.toNat : Int) + delta.toInt) ∧
    (ovf5 base delta = true ↔ (base.toNat, delta.toNat) ∈
      [(0, 4), (0, 5), (0, 6), (0, 7), (1, 4), (1, 5), (1, 6), (2, 4), (2, 5), (3, 4),
       (29, 3), (30, 2), (30, 3), (31, 1), (31, 2), (31, 3)])

/-- R76, R77: addition in the integers, then saturation to 0 and 255, each channel on its own with the same delta. -/
def Obligations.ClampAddSaturates : Prop :=
  (∀ s : Int, ((clamp255 s).toNat : Int) = max 0 (min 255 s)) ∧
  (∀ (base : Channel) (delta : Int), ((clampAdd base delta).toNat : Int) = max 0 (min 255 ((base.toNat : Int) + delta))) ∧
  (∀ (p : Pixel) (delta : Int), clampAdd3 p delta = ⟨clampAdd p.r delta, clampAdd p.g delta, clampAdd p.b delta⟩)

/-! ### Encoding (spec/30_encoding.md, spec/41_mode_dispatch.md) -/

/-- R37: a block is big-endian, byte by byte, and its 8 bytes are the stream's again. -/
def Obligations.BlocksAreBigEndian : Prop :=
  ∀ b0 b1 b2 b3 b4 b5 b6 b7 : Byte, ∃ w, blockOfBytes [b0, b1, b2, b3, b4, b5, b6, b7] = some w ∧
    w.extractLsb' 56 8 = b0 ∧ w.extractLsb' 48 8 = b1 ∧ w.extractLsb' 40 8 = b2 ∧ w.extractLsb' 32 8 = b3 ∧
    w.extractLsb' 24 8 = b4 ∧ w.extractLsb' 16 8 = b5 ∧ w.extractLsb' 8 8 = b6 ∧ w.extractLsb' 0 8 = b7 ∧
    bytesOfBlock w = [b0, b1, b2, b3, b4, b5, b6, b7]

/-- For every layout, the decision procedure of 41_mode_dispatch.md section 2: `DIFF`, then whether base plus signed delta leaves
0 to 31, red before green before blue, the pairs read where the layout puts them. With the spec's layout (log entry 7) that is
membership of `BYTE0`, `BYTE1`, `BYTE2` in the 16 values of `OVFSET`, the mode map of 30_encoding.md section 4. -/
def Obligations.ModeMapByOverflowBytes : Prop :=
  (∀ (l : Layout) (w : Block),
    let leaves := fun (base : BitVec 5) (delta : BitVec 3) =>
      (base.toNat : Int) + delta.toInt < 0 ∨ 31 < (base.toNat : Int) + delta.toInt
    let red := leaves (w.extractLsb' l.differential.r0 5) (w.extractLsb' l.differential.dr 3)
    let green := leaves (w.extractLsb' l.differential.g0 5) (w.extractLsb' l.differential.dg 3)
    let blue := leaves (w.extractLsb' l.differential.b0 5) (w.extractLsb' l.differential.db 3)
    (modeOf l w = .individual ↔ w.getLsbD 33 = false) ∧
    (modeOf l w = .t ↔ w.getLsbD 33 = true ∧ red) ∧
    (modeOf l w = .h ↔ w.getLsbD 33 = true ∧ ¬red ∧ green) ∧
    (modeOf l w = .planar ↔ w.getLsbD 33 = true ∧ ¬red ∧ ¬green ∧ blue) ∧
    (modeOf l w = .differential ↔ w.getLsbD 33 = true ∧ ¬red ∧ ¬green ∧ ¬blue)) ∧
  (∀ w : Block,
    let ovf := fun t : Byte =>
      t.toNat ∈ [0x04, 0x05, 0x06, 0x07, 0x0C, 0x0D, 0x0E, 0x14, 0x15, 0x1C, 0xEB, 0xF2, 0xF3, 0xF9, 0xFA, 0xFB]
    let byte0 := w.extractLsb' 56 8
    let byte1 := w.extractLsb' 48 8
    let byte2 := w.extractLsb' 40 8
    (modeOf specLayout w = .individual ↔ w.getLsbD 33 = false) ∧
    (modeOf specLayout w = .t ↔ w.getLsbD 33 = true ∧ ovf byte0) ∧
    (modeOf specLayout w = .h ↔ w.getLsbD 33 = true ∧ ¬ovf byte0 ∧ ovf byte1) ∧
    (modeOf specLayout w = .planar ↔ w.getLsbD 33 = true ∧ ¬ovf byte0 ∧ ¬ovf byte1 ∧ ovf byte2) ∧
    (modeOf specLayout w = .differential ↔ w.getLsbD 33 = true ∧ ¬ovf byte0 ∧ ¬ovf byte1 ∧ ¬ovf byte2))

/-- A few words written out from the layout tables decode to the instructions they stand for (bit positions: log entry 7). -/
def Obligations.SampleWordsDecode : Prop :=
  decode specLayout (.block 0xA15F083CCCCCAAAA) = .ok (.individual ⟨0xA, 0x1, 0x5, 0xF, 0x0, 0x8, 1, 7, 0, 0xCCCC, 0xAAAA⟩) ∧
  decode specLayout (.block 0x8344FF77A3F0A5CC) = .ok (.differential ⟨16, 3, 8, 4, 31, 7, 3, 5, 1, 0xA3F0, 0xA5CC⟩) ∧
  decode specLayout (.block 0x1C3F28EBCCCCAAAA) = .ok (.t ⟨0, 3, 1, 0, 0x3, 0xF, 0x2, 0x8, 0xE, 2, 1, 0xCCCC, 0xAAAA⟩) ∧
  decode specLayout (.block 0x2AF2AAAFA3F0A5CC) = .ok (.h ⟨0, 5, 2, 7, 1, 0, 0, 5, 5, 5, 5, 1, 1, 0xA3F0, 0xA5CC⟩) ∧
  decode specLayout (.block 0x9428FB52B597E005) = .ok (.planar ⟨1, 10, 0, 0, 20, 0, 7, 3, 0, 6, 20, 0, 90, 50, 63, 0, 5⟩) ∧
  decode specLayout (.ctrl 1) = .ok (.start 0)

/-- Every block decodes to a well-formed instruction, and encoding it gives the block back: no bit is dropped, none invented. -/
def Obligations.DecodedBlockReencodes : Prop :=
  ∀ w : Block, ∃ i, decode specLayout (.block w) = .ok i ∧ i.wf specLayout = true ∧ encode specLayout i = .block w

/-- Every `INDIVIDUAL` field form is an instruction; it and every well-formed `DIFFERENTIAL` one decode from their encoding. -/
def Obligations.Etc1FormsRoundTrip : Prop :=
  (∀ f, (Instr.individual f).wf specLayout = true ∧ decode specLayout (encode specLayout (.individual f)) = .ok (.individual f)) ∧
  (∀ f, (Instr.differential f).wf specLayout = true → decode specLayout (encode specLayout (.differential f)) = .ok (.differential f))

/-- Every well-formed `T` and `H` field form decodes from its encoding. -/
def Obligations.PaintFormsRoundTrip : Prop :=
  (∀ f, (Instr.t f).wf specLayout = true → decode specLayout (encode specLayout (.t f)) = .ok (.t f)) ∧
  (∀ f, (Instr.h f).wf specLayout = true → decode specLayout (encode specLayout (.h f)) = .ok (.h f))

/-- Every well-formed `PLANAR` field form decodes from its encoding. -/
def Obligations.PlanarFormRoundTrips : Prop :=
  ∀ f, (Instr.planar f).wf specLayout = true → decode specLayout (encode specLayout (.planar f)) = .ok (.planar f)

/-- R62: a `CTRL` value is `START` exactly when bit 0 is 1, bits 31:1 are carried along unread, and `START` decodes from its
encoding. -/
def Obligations.StartCommandRoundTrips : Prop :=
  ∀ l : Layout,
    (∀ v : BitVec 32, (∃ i, decode l (.ctrl v) = .ok i) ↔ v.getLsbD 0 = true) ∧
    (∀ (v : BitVec 32) (i : Instr), decode l (.ctrl v) = .ok i → i = .start (v.extractLsb' 1 31) ∧ encode l i = .ctrl v) ∧
    (∀ ignored : BitVec 31, decode l (encode l (.start ignored)) = .ok (.start ignored))

/-- R64: for each assignment of the fields of `T`, `H`, `PLANAR` some assignment of the unused bits gives that format. -/
def Obligations.UnusedBitsReachEveryField : Prop :=
  (∀ f : TFields, ∃ u63 u58, (Instr.t { f with u63 := u63, u58 := u58 }).wf specLayout = true) ∧
  (∀ f : HFields, ∃ u63 u55 u50, (Instr.h { f with u63 := u63, u55 := u55, u50 := u50 }).wf specLayout = true) ∧
  (∀ f : PlanarFields, ∃ u63 u55 u47 u42,
    (Instr.planar { f with u63 := u63, u55 := u55, u47 := u47, u42 := u42 }).wf specLayout = true)

/-! ### The five block modes (spec/42_etc1_family.md to spec/44_planar.md) -/

/-- R57, R102: the PixelIndex of position `i` as a number, and the two halves as sets of positions. -/
def Obligations.PixelIndexAndSubblock : Prop :=
  (∀ (hi lo : BitVec 16) (i : Nat), (pixelIndex hi lo i).toNat = 2 * (hi.getLsbD i).toNat + (lo.getLsbD i).toNat) ∧
  (∀ i : Nat, i < 16 →
    (subblock 0 i = false ↔ i ∈ [0, 1, 2, 3, 4, 5, 6, 7]) ∧ (subblock 1 i = false ↔ i ∈ [0, 1, 4, 5, 8, 9, 12, 13]))

/-- R103 in both instructions: colours and selectors from the fields, then for each of the 16 positions the sub-block's colour
plus the looked-up delta, clamped channel by channel. The tables are whatever the run's parameters say; which half is sub-block 0
and which plane is the index's high bit are the spec's from general knowledge (D24, G6; log entries 7, 8). -/
def Obligations.Etc1BlocksReconstruct : Prop :=
  (∀ (f : IndividualFields) (s : State), ∃ t, exec (.individual f) s = .next t ∧
    t.dp.mode = .individual ∧ t.dp.ts0 = f.ts0 ∧ t.dp.ts1 = f.ts1 ∧ t.dp.flip = f.flip ∧
    t.dp.base0 = ⟨ext4 f.r0, ext4 f.g0, ext4 f.b0⟩ ∧ t.dp.base1 = ⟨ext4 f.r1, ext4 f.g1, ext4 f.b1⟩ ∧
    ∀ i, i < 16 → tileGet t.dp.pix i = some
      (if (if f.flip = 0 then 8 ≤ i else 2 ≤ i % 4)
        then clampAdd3 t.dp.base1 (cwGet s.par.cw f.ts1 (pixelIndex f.idxHi f.idxLo i))
        else clampAdd3 t.dp.base0 (cwGet s.par.cw f.ts0 (pixelIndex f.idxHi f.idxLo i)))) ∧
  (∀ (f : DifferentialFields) (s : State), ∃ t, exec (.differential f) s = .next t ∧
    t.dp.mode = .differential ∧ t.dp.ts0 = f.ts0 ∧ t.dp.ts1 = f.ts1 ∧ t.dp.flip = f.flip ∧
    t.dp.base0 = ⟨ext5 f.r0, ext5 f.g0, ext5 f.b0⟩ ∧
    t.dp.base1 = ⟨ext5 ((adds3to5 f.dr f.r0).extractLsb' 0 5), ext5 ((adds3to5 f.dg f.g0).extractLsb' 0 5),
      ext5 ((adds3to5 f.db f.b0).extractLsb' 0 5)⟩ ∧
    ∀ i, i < 16 → tileGet t.dp.pix i = some
      (if (if f.flip = 0 then 8 ≤ i else 2 ≤ i % 4)
        then clampAdd3 t.dp.base1 (cwGet s.par.cw f.ts1 (pixelIndex f.idxHi f.idxLo i))
        else clampAdd3 t.dp.base0 (cwGet s.par.cw f.ts0 (pixelIndex f.idxHi f.idxLo i))))

/-- In a well-formed `DIFFERENTIAL` block each second colour channel is the exact 5-bit sum, extended afterwards: the overflow
tests have ruled every other sum out. -/
def Obligations.DifferentialSecondColourIsExact : Prop :=
  ∀ (f : DifferentialFields) (s : State), (Instr.differential f).wf specLayout = true →
    ∃ (t : State) (r g b : BitVec 5), exec (.differential f) s = .next t ∧ t.dp.base1 = ⟨ext5 r, ext5 g, ext5 b⟩ ∧
      (r.toNat : Int) = f.r0.toNat + f.dr.toInt ∧ (g.toNat : Int) = f.g0.toNat + f.dg.toInt ∧
      (b.toNat : Int) = f.b0.toNat + f.db.toInt

/-- R112, R113, R114 in both instructions: colours and selector from the fields, the four paints, and each pixel the paint its
PixelIndex selects. The split of the fields into pieces is the spec's from general knowledge (log entry 7). -/
def Obligations.PaintBlocksReconstruct : Prop :=
  (∀ (f : TFields) (s : State), ∃ t, exec (.t f) s = .next t ∧ t.dp.mode = .t ∧
    t.dp.base0 = ⟨ext4 (f.r0a ++ f.r0b), ext4 f.g0, ext4 f.b0⟩ ∧ t.dp.base1 = ⟨ext4 f.r1, ext4 f.g1, ext4 f.b1⟩ ∧
    t.dp.dsel.toNat = 2 * f.da.toNat + f.db.toNat ∧
    t.dp.paint.c0 = t.dp.base0 ∧ t.dp.paint.c1 = clampAdd3 t.dp.base1 (dtGet s.par.dt t.dp.dsel) ∧
    t.dp.paint.c2 = t.dp.base1 ∧ t.dp.paint.c3 = clampAdd3 t.dp.base1 (-(dtGet s.par.dt t.dp.dsel : Int)) ∧
    ∀ i, i < 16 → tileGet t.dp.pix i = some (paintGet t.dp.paint (pixelIndex f.idxHi f.idxLo i))) ∧
  (∀ (f : HFields) (s : State), ∃ t, exec (.h f) s = .next t ∧ t.dp.mode = .h ∧
    t.dp.base0 = ⟨ext4 f.r0, ext4 (f.g0a ++ f.g0b), ext4 (f.b0a ++ f.b0b)⟩ ∧
    t.dp.base1 = ⟨ext4 f.r1, ext4 f.g1, ext4 f.b1⟩ ∧
    t.dp.dsel.toNat = 4 * f.da.toNat + 2 * f.db.toNat +
      (if t.dp.base1.r.toNat * 65536 + t.dp.base1.g.toNat * 256 + t.dp.base1.b.toNat ≤
          t.dp.base0.r.toNat * 65536 + t.dp.base0.g.toNat * 256 + t.dp.base0.b.toNat then 1 else 0) ∧
    t.dp.paint.c0 = clampAdd3 t.dp.base0 (dtGet s.par.dt t.dp.dsel) ∧
    t.dp.paint.c1 = clampAdd3 t.dp.base0 (-(dtGet s.par.dt t.dp.dsel : Int)) ∧
    t.dp.paint.c2 = clampAdd3 t.dp.base1 (dtGet s.par.dt t.dp.dsel) ∧
    t.dp.paint.c3 = clampAdd3 t.dp.base1 (-(dtGet s.par.dt t.dp.dsel : Int)) ∧
    ∀ i, i < 16 → tileGet t.dp.pix i = some (paintGet t.dp.paint (pixelIndex f.idxHi f.idxLo i)))

/-- The H ordering bit is the same whether the colours are compared on 8 bits or on the 4 bits the block holds. -/
def Obligations.OrderingBitAgreesOnFourBits : Prop :=
  ∀ r0 g0 b0 r1 g1 b1 : BitVec 4,
    (orderBit ⟨ext4 r0, ext4 g0, ext4 b0⟩ ⟨ext4 r1, ext4 g1, ext4 b1⟩ = 1) ↔
      r1.toNat * 256 + g1.toNat * 16 + b1.toNat ≤ r0.toNat * 256 + g0.toNat * 16 + b0.toNat

/-- The `PLANAR` instruction: the three colours from the fields and each pixel by the formula with an arithmetic shift right,
for whatever coordinate base the run's parameters say. The field widths and pieces are the spec's from general knowledge (log
entry 7). -/
def Obligations.PlanarBlockInterpolates : Prop :=
  ∀ (f : PlanarFields) (s : State), ∃ t, exec (.planar f) s = .next t ∧ t.dp.mode = .planar ∧
    t.dp.co = ⟨ext6 f.ro, ext7 (f.goa ++ f.gob), ext6 (f.boa ++ f.bob ++ f.boc)⟩ ∧
    t.dp.ch = ⟨ext6 (f.rha ++ f.rhb), ext7 f.gh, ext6 f.bh⟩ ∧ t.dp.cv = ⟨ext6 f.rv, ext7 f.gv, ext6 f.bv⟩ ∧
    ∀ col row : Nat, col < 4 → row < 4 →
      let chan := fun o h v : Channel =>
        clamp255 ((((col + s.par.planarBase : Nat) : Int) * (h.toNat - o.toNat) +
          ((row + s.par.planarBase : Nat) : Int) * (v.toNat - o.toNat) + 4 * o.toNat + 2) >>> (2 : Nat))
      tileGet t.dp.pix (col * 4 + row) = some ⟨chan t.dp.co.r t.dp.ch.r t.dp.cv.r, chan t.dp.co.g t.dp.ch.g t.dp.cv.g,
        chan t.dp.co.b t.dp.ch.b t.dp.cv.b⟩

/-- The corner pixels of a tile with coordinates 1 to 4, in each channel: a blend at position 0, the exact `H + V - O` at
position 15. -/
def Obligations.PlanarCornerValues : Prop :=
  ∀ (co ch cv : Pixel) (p0 p3 p12 p15 : Pixel),
    tileGet (reconPlanar 1 co ch cv) 0 = some p0 → tileGet (reconPlanar 1 co ch cv) 3 = some p3 →
    tileGet (reconPlanar 1 co ch cv) 12 = some p12 → tileGet (reconPlanar 1 co ch cv) 15 = some p15 →
    p0.r = clamp255 ((ch.r.toNat + cv.r.toNat + 2 * co.r.toNat + 2) / 4) ∧
    p0.g = clamp255 ((ch.g.toNat + cv.g.toNat + 2 * co.g.toNat + 2) / 4) ∧
    p0.b = clamp255 ((ch.b.toNat + cv.b.toNat + 2 * co.b.toNat + 2) / 4) ∧
    p3.r = clamp255 (((ch.r.toNat : Int) + 4 * cv.r.toNat - co.r.toNat + 2) / 4) ∧
    p3.g = clamp255 (((ch.g.toNat : Int) + 4 * cv.g.toNat - co.g.toNat + 2) / 4) ∧
    p3.b = clamp255 (((ch.b.toNat : Int) + 4 * cv.b.toNat - co.b.toNat + 2) / 4) ∧
    p12.r = clamp255 ((4 * (ch.r.toNat : Int) + cv.r.toNat - co.r.toNat + 2) / 4) ∧
    p12.g = clamp255 ((4 * (ch.g.toNat : Int) + cv.g.toNat - co.g.toNat + 2) / 4) ∧
    p12.b = clamp255 ((4 * (ch.b.toNat : Int) + cv.b.toNat - co.b.toNat + 2) / 4) ∧
    p15.r = clamp255 ((ch.r.toNat : Int) + cv.r.toNat - co.r.toNat) ∧
    p15.g = clamp255 ((ch.g.toNat : Int) + cv.g.toNat - co.g.toNat) ∧
    p15.b = clamp255 ((ch.b.toNat : Int) + cv.b.toNat - co.b.toNat)

/-- Three equal colours give a flat tile for every coordinate base, and exchanging `CH` and `CV` transposes the tile. -/
def Obligations.PlanarFlatAndTransposed : Prop :=
  (∀ (base : Nat) (c : Pixel) (i : Nat), i < 16 → tileGet (reconPlanar base c c c) i = some c) ∧
  (∀ (base : Nat) (co ch cv : Pixel) (col row : Nat), col < 4 → row < 4 →
    tileGet (reconPlanar base co cv ch) (row * 4 + col) = tileGet (reconPlanar base co ch cv) (col * 4 + row))

/-- Every pixel of a `T` or `H` block is one of its four paints, and a pixel of an indexed block depends on no index bits but
its own: with equal other fields, equal bits at `i` give equal pixels at `i`. -/
def Obligations.PixelsDependOnOwnIndexBits : Prop :=
  (∀ (p : Paints) (hi lo : BitVec 16) (i : Nat), i < 16 →
    tileGet (selectPaint p hi lo) i ∈ [some p.c0, some p.c1, some p.c2, some p.c3]) ∧
  (∀ (p : Paints) (hi lo hi' lo' : BitVec 16) (i : Nat), i < 16 → hi.getLsbD i = hi'.getLsbD i → lo.getLsbD i = lo'.getLsbD i →
    tileGet (selectPaint p hi lo) i = tileGet (selectPaint p hi' lo') i) ∧
  (∀ (cw : CodewordTable) (b0 b1 : Pixel) (ts0 ts1 : BitVec 3) (flip : BitVec 1) (hi lo hi' lo' : BitVec 16) (i : Nat), i < 16 →
    hi.getLsbD i = hi'.getLsbD i → lo.getLsbD i = lo'.getLsbD i →
    tileGet (reconEtc1 cw b0 b1 ts0 ts1 flip hi lo) i = tileGet (reconEtc1 cw b0 b1 ts0 ts1 flip hi' lo') i)

/-- Running the instruction a block decodes to leaves in `PIX` what the pure function `DECODE_BLOCK` gives of the block and the
parameters alone, and in `MODE` the mode of the block. -/
def Obligations.ExecutedBlockIsDecodeBlock : Prop :=
  ∀ (w : Block) (s : State), ∃ t, exec (decodeBlock s.par.layout w) s = .next t ∧ t.dp.pix = decodeTile s.par w ∧
    t.dp.mode = modeOf s.par.layout w

/-- Frame of the five block instructions: nothing but the datapath registers changes, hence no register of the host interface,
no sequencer register and no byte of `STREAM`, `OUT` or `BAND`; and of the datapath only the registers the instruction names. -/
def Obligations.BlockInstructionsFrame : Prop :=
  ∀ (i : Instr) (s t : State), (∀ ignored, i ≠ .start ignored) → exec i s = .next t →
    t = { s with dp := t.dp } ∧
    (∀ a, byteAt t.stream a = byteAt s.stream a) ∧ (∀ a, byteAt t.out a = byteAt s.out a) ∧
    (∀ x, Store.read t.band x = Store.read s.band x) ∧ t.dp.blk = s.dp.blk ∧
    (match i with
      | .individual _ => t.dp.co = s.dp.co ∧ t.dp.ch = s.dp.ch ∧ t.dp.cv = s.dp.cv ∧ t.dp.dsel = s.dp.dsel ∧ t.dp.paint = s.dp.paint
      | .differential _ => t.dp.co = s.dp.co ∧ t.dp.ch = s.dp.ch ∧ t.dp.cv = s.dp.cv ∧ t.dp.dsel = s.dp.dsel ∧ t.dp.paint = s.dp.paint
      | .t _ => t.dp.co = s.dp.co ∧ t.dp.ch = s.dp.ch ∧ t.dp.cv = s.dp.cv ∧ t.dp.ts0 = s.dp.ts0 ∧ t.dp.ts1 = s.dp.ts1 ∧ t.dp.flip = s.dp.flip
      | .h _ => t.dp.co = s.dp.co ∧ t.dp.ch = s.dp.ch ∧ t.dp.cv = s.dp.cv ∧ t.dp.ts0 = s.dp.ts0 ∧ t.dp.ts1 = s.dp.ts1 ∧ t.dp.flip = s.dp.flip
      | .planar _ => t.dp.base0 = s.dp.base0 ∧ t.dp.base1 = s.dp.base1 ∧ t.dp.ts0 = s.dp.ts0 ∧ t.dp.ts1 = s.dp.ts1 ∧
          t.dp.flip = s.dp.flip ∧ t.dp.dsel = s.dp.dsel ∧ t.dp.paint = s.dp.paint
      | .start _ => True)

/-! ### `START` (spec/45_assembler.md sections 1 and 2, spec/60_exceptions.md) -/

/-- R132: the requested width, or 4 times the greatest `r` with `r*r <= len div 8`, whatever the requested height; and that is
the width of every decode that `START` does not abort. -/
def Obligations.WidthInferenceIsExactRoot : Prop :=
  (∀ reqw len : Nat,
    (reqw ≠ 0 → resolveWidth reqw len = reqw) ∧
    (reqw = 0 → ∃ r, r * r ≤ len / 8 ∧ len / 8 < (r + 1) * (r + 1) ∧ resolveWidth reqw len = 4 * r)) ∧
  (∀ (g : BitVec 31) (s t : State), s.status ≠ .busy → exec (.start g) s = .next t → t.status ≠ .error →
    t.w = resolveWidth s.reqWidth.toNat s.streamLen.toNat ∧ t.resWidth.toNat = t.w)

/-- R133: the requested height, or 4 times the floor quotient; and where the divisor is 0 (exactly: both requests 0 and fewer
than 8 bytes declared) `START` raises `InvalidResolution` with 0 and the declared length, before any size is published. The
resolved height is that of every decode that `START` does not abort. -/
def Obligations.HeightInferenceAndZeroWidth : Prop :=
  (∀ reqh w len : Nat,
    (reqh ≠ 0 → resolveHeight reqh w len = some reqh) ∧
    (reqh = 0 → (w + 3) / 4 ≠ 0 → resolveHeight reqh w len = some (4 * (len / 8 / ((w + 3) / 4))))) ∧
  (∀ s : State, s.askedHeight = none ↔ s.reqWidth = 0 ∧ s.reqHeight = 0 ∧ s.streamLen.toNat < 8) ∧
  (∀ (g : BitVec 31) (s : State), s.status ≠ .busy → s.askedHeight = none → ∃ t, exec (.start g) s = .next t ∧
    t.status = .error ∧ t.errKind = .invalidResolution ∧ t.errRequired = 0 ∧ t.errAvailable = s.streamLen ∧
    t.resWidth = 0 ∧ t.resHeight = 0) ∧
  (∀ (g : BitVec 31) (s t : State), s.status ≠ .busy → exec (.start g) s = .next t → t.status ≠ .error →
    resolveHeight s.reqHeight.toNat t.w s.streamLen.toNat = some t.h ∧ t.resHeight.toNat = t.h)

/-- With the height inferred the resolved size never needs more bytes than are declared. -/
def Obligations.InferredHeightAlwaysFits : Prop :=
  ∀ reqw len h : Nat, resolveHeight 0 (resolveWidth reqw len) len = some h →
    (resolveWidth reqw len + 3) / 4 * ((h + 3) / 4) * 8 ≤ len

/-- R134: a resolved dimension of 2^32 or more, possible only for an inferred one and with at least 2^33 bytes declared, raises
`InvalidResolution` with 0 and the declared length before any size is published; any other resolved size is published,
whether or not a later check fails. -/
def Obligations.StartPublishesResolvedSize : Prop :=
  ∀ (g : BitVec 31) (s : State) (h : Nat), s.status ≠ .busy → s.askedHeight = some h →
    (2 ^ 32 ≤ s.askedWidth ∨ 2 ^ 32 ≤ h → (s.reqWidth = 0 ∨ s.reqHeight = 0) ∧ 2 ^ 33 ≤ s.streamLen.toNat ∧
      ∃ t, exec (.start g) s = .next t ∧ t.status = .error ∧ t.errKind = .invalidResolution ∧ t.errRequired = 0 ∧
        t.errAvailable = s.streamLen ∧ t.resWidth = 0 ∧ t.resHeight = 0) ∧
    (s.askedWidth < 2 ^ 32 → h < 2 ^ 32 →
      ∃ t, exec (.start g) s = .next t ∧ t.resWidth.toNat = s.askedWidth ∧ t.resHeight.toNat = h ∧ t.w = s.askedWidth ∧
        t.h = h ∧ t.xb = (s.askedWidth + 3) / 4 ∧ t.yb = (h + 3) / 4)

/-- R135: more required than declared bytes raise `InvalidResolution` with both numbers, after the size is published, and
no byte of the stream has been consumed. -/
def Obligations.StartChecksDeclaredLength : Prop :=
  ∀ (g : BitVec 31) (s : State) (h : Nat), s.status ≠ .busy → s.askedHeight = some h → s.askedWidth < 2 ^ 32 → h < 2 ^ 32 →
    s.streamLen.toNat < (s.askedWidth + 3) / 4 * ((h + 3) / 4) * 8 →
    ∃ t, exec (.start g) s = .next t ∧ t.status = .error ∧ t.errKind = .invalidResolution ∧
      t.errRequired.toNat = (s.askedWidth + 3) / 4 * ((h + 3) / 4) * 8 ∧ t.errAvailable = s.streamLen ∧
      t.resWidth.toNat = s.askedWidth ∧ t.resHeight.toNat = h ∧ t.pos = 0

/-- R137: a size that fits the declared stream but not a buffer raises `AllocationFailure` with 0 and 0, and nothing is written
to `OUT`; with both capacities unbounded `START` never raises it. -/
def Obligations.StartChecksCapacities : Prop :=
  (∀ (g : BitVec 31) (s : State) (h : Nat), s.status ≠ .busy → s.askedHeight = some h → s.askedWidth < 2 ^ 32 → h < 2 ^ 32 →
    (s.askedWidth + 3) / 4 * ((h + 3) / 4) * 8 ≤ s.streamLen.toNat →
    ((∃ c, s.par.bandCapacity = some c ∧ c < (s.askedWidth + 3) / 4) ∨
     (∃ c, s.par.outCapacity = some c ∧ c < s.askedWidth * h * 3)) →
    ∃ t, exec (.start g) s = .next t ∧ t.status = .error ∧ t.errKind = .allocationFailure ∧ t.errRequired = 0 ∧
      t.errAvailable = 0 ∧ t.resWidth.toNat = s.askedWidth ∧ t.resHeight.toNat = h ∧ t.pos = 0 ∧
      ∀ a b, byteAt t.out a = some b → byteAt s.out a = some b) ∧
  (∀ (g : BitVec 31) (s t : State), s.status ≠ .busy → s.par.bandCapacity = none → s.par.outCapacity = none →
    exec (.start g) s = .next t → t.errKind ≠ .allocationFailure)

/-- `START` completes: with every check passed the decode is set up at the first block, or is over at once where there is no
block; the result, error, position and counter registers are as its entry and the publication leave them. That this is one step
is the model's granularity (log entry 2), and so are the counters at 0 in `DONE` where there is no block, for which the spec gives
no value; that `OUT` and `BAND` hold nothing is how it writes `unspecified` (log entry 4). -/
def Obligations.StartBeginsDecode : Prop :=
  ∀ (g : BitVec 31) (s : State) (h : Nat), s.status ≠ .busy → s.askedHeight = some h → s.askedWidth < 2 ^ 32 → h < 2 ^ 32 →
    (s.askedWidth + 3) / 4 * ((h + 3) / 4) * 8 ≤ s.streamLen.toNat →
    (∀ c, s.par.bandCapacity = some c → (s.askedWidth + 3) / 4 ≤ c) →
    (∀ c, s.par.outCapacity = some c → s.askedWidth * h * 3 ≤ c) →
    exec (.start g) s = .next { s with
      status := if (s.askedWidth + 3) / 4 * ((h + 3) / 4) = 0 then .done else .busy
      errKind := .none, errRequired := 0, errAvailable := 0
      resWidth := BitVec.ofNat 32 s.askedWidth, resHeight := BitVec.ofNat 32 h
      w := s.askedWidth, h := h, xb := (s.askedWidth + 3) / 4, yb := (h + 3) / 4
      pos := 0, outp := 0, bandY := 0, blockX := 0, rowJ := 0, colK := 0, phase := .read, band := [], out := [] }

/-- Frame of `START`: the parameter registers, the stream, the run parameters, the datapath registers, the host's moves and
what it last read stay; while `BUSY` nothing at all changes; else `OUT` and `BAND` hold nothing afterwards (log entry 4). -/
def Obligations.StartFrame : Prop :=
  ∀ (g : BitVec 31) (s t : State), exec (.start g) s = .next t →
    t.reqWidth = s.reqWidth ∧ t.reqHeight = s.reqHeight ∧ t.streamLen = s.streamLen ∧ t.stream = s.stream ∧
    t.par = s.par ∧ t.dp = s.dp ∧ t.host = s.host ∧ t.rdata = s.rdata ∧ t.freeCtr = s.freeCtr ∧
    (s.status = .busy → t = s) ∧
    (s.status ≠ .busy → (∀ a, byteAt t.out a = none) ∧ (∀ x, Store.read t.band x = none) ∧ t.pos = 0 ∧ t.outp = 0)

/-- What `START` does depends on the three parameter registers, the stream and the run parameters only: two states that agree on
those, whatever else they held, start alike, and where a decode begins the two states differ in nothing a decode can observe. -/
def Obligations.StartForgetsHistory : Prop :=
  ∀ (g : BitVec 31) (a b : State), a.status ≠ .busy → b.status ≠ .busy →
    a.reqWidth = b.reqWidth → a.reqHeight = b.reqHeight → a.streamLen = b.streamLen → a.stream = b.stream → a.par = b.par →
    a.host = b.host →
    ∃ ta tb, exec (.start g) a = .next ta ∧ exec (.start g) b = .next tb ∧ ta.status = tb.status ∧ ta.errKind = tb.errKind ∧
      ta.errRequired = tb.errRequired ∧ ta.errAvailable = tb.errAvailable ∧ ta.resWidth = tb.resWidth ∧
      ta.resHeight = tb.resHeight ∧ (ta.status ≠ .error → SameDecode ta tb)

/-! ### The step: what runs, and the traversal (spec/45_assembler.md section 3) -/

/-- A step runs the decoded instruction. When it is the core's turn in `READ` and the 8 bytes at `POS` are the block `w`, the
step is `exec` of `decodeBlock w`, at the state with `BLK` and `POS` written, followed by `retire`; and a host write of
`CTRL` with bit 0 set is `exec` of `START`. -/
def Obligations.StepRunsDecodedInstruction : Prop :=
  (∀ (s : State) (rest : List HostOp) (w : Block), s.CoreTurn rest → s.status = .busy → s.phase = .read →
    blockOfBytes (memRead s.stream s.pos 8) = some w → decode s.par.layout (.block w) = .ok (decodeBlock s.par.layout w) ∧
    step s = (match exec (decodeBlock s.par.layout w) { s with host := rest, pos := s.pos + 8, dp := { s.dp with blk := w } } with
      | .next t => .next (retire (decodeBlock s.par.layout w) t)
      | .fault r => .fault r
      | .refused r => .refused r)) ∧
  (∀ (s : State) (rest : List HostOp) (v : BitVec 64) (i : Instr), s.host = .write 3 v :: rest →
    decode s.par.layout (.ctrl (v.setWidth 32)) = .ok i → step s = exec i { s with host := rest })

/-- R141, with R140: a block read advances `POS` by 8 and puts the decoded block of the bytes at `POS` into slot `BX`; no other slot
and no byte of `OUT` changes; the next configuration is the next `READ` of the band, or its first `EMIT` (granularity: log entry
2). -/
def Obligations.BlockReadFillsBandSlot : Prop :=
  ∀ (s : State) (rest : List HostOp) (w : Block), s.CoreTurn rest → s.status = .busy → s.phase = .read →
    blockOfBytes (memRead s.stream s.pos 8) = some w →
    ∃ t, step s = .next t ∧ t.pos = s.pos + 8 ∧ t.dp.blk = w ∧ Store.read t.band s.blockX = some (decodeTile s.par w) ∧
      (∀ x, x ≠ s.blockX → Store.read t.band x = Store.read s.band x) ∧ t.out = s.out ∧ t.outp = s.outp ∧ t.bandY = s.bandY ∧
      t.status = .busy ∧ t.w = s.w ∧ t.h = s.h ∧ t.xb = s.xb ∧ t.yb = s.yb ∧
      (s.blockX + 1 < s.xb → t.phase = .read ∧ t.blockX = s.blockX + 1) ∧
      (s.xb ≤ s.blockX + 1 → t.phase = .emit ∧ t.blockX = 0 ∧ t.rowJ = 0 ∧ t.colK = 0)

/-- R142, with the error entry of R155: a read of fewer than 8 bytes raises `ShortRead` with `POS + 8` and `POS + |bytes|`; the
four registers are written, nothing is said of `OUT` and `BAND`, everything else stays. `POS + |bytes|` is `|S|`, and in a run
it happens only where the host declared more bytes than the stream holds. -/
def Obligations.ShortReadEntersError : Prop :=
  ∀ (s : State) (rest : List HostOp), s.CoreTurn rest → s.status = .busy → s.phase = .read →
    (memRead s.stream s.pos 8).length < 8 →
    (∃ t, step s = .next t ∧ t = { s with
      host := rest, status := .error, errKind := .shortRead, errRequired := BitVec.ofNat 64 (s.pos + 8)
      errAvailable := BitVec.ofNat 64 (s.pos + (memRead s.stream s.pos 8).length), band := t.band, out := t.out }) ∧
    (Gapless s.stream → s.pos ≤ s.stream.length → s.pos + (memRead s.stream s.pos 8).length = s.stream.length) ∧
    (s.Inv → s.pos + 8 ≤ s.xb * s.yb * 8 ∧ s.xb * s.yb * 8 ≤ s.streamLen.toNat ∧ s.stream.length < s.streamLen.toNat)

/-- R145: a visited pixel inside the image is appended at `OUTP`, red lowest, and `OUTP` grows by 3; every other byte of
`OUT` is as before, no byte of the stream is consumed. No step but such a visit ever puts a byte into `OUT`. -/
def Obligations.VisitAppendsImagePixel : Prop :=
  (∀ (s : State) (rest : List HostOp) (d : Tile) (p : Pixel), s.CoreTurn rest → s.status = .busy → s.phase = .emit →
    Store.read s.band s.blockX = some d → tileGet d (s.colK * 4 + s.rowJ) = some p →
    s.blockX * 4 + s.colK < s.w → s.bandY * 4 + s.rowJ < s.h →
    ∃ t, step s = .next t ∧ t.outp = s.outp + 3 ∧ byteAt t.out s.outp = some p.r ∧ byteAt t.out (s.outp + 1) = some p.g ∧
      byteAt t.out (s.outp + 2) = some p.b ∧
      (∀ a, a < s.outp ∨ s.outp + 3 ≤ a → byteAt t.out a = byteAt s.out a) ∧ t.pos = s.pos ∧ t.stream = s.stream ∧ t.dp = s.dp ∧
      t.w = s.w ∧ t.h = s.h ∧ t.xb = s.xb ∧ t.yb = s.yb) ∧
  (∀ (s t : State) (a : Nat) (b : Byte), step s = .next t → byteAt t.out a = some b → byteAt s.out a ≠ some b →
    (∃ rest, s.CoreTurn rest) ∧ s.status = .busy ∧ s.phase = .emit ∧ s.blockX * 4 + s.colK < s.w ∧
      s.bandY * 4 + s.rowJ < s.h ∧ s.outp ≤ a ∧ a < s.outp + 3)

/-- A visited pixel of a padding column or a padding row is discarded: nothing is appended. (For rows this is the spec's decision
D9; log entry 9.) -/
def Obligations.VisitDiscardsPadding : Prop :=
  ∀ (s : State) (rest : List HostOp), s.CoreTurn rest → s.status = .busy → s.phase = .emit →
    (s.w ≤ s.blockX * 4 + s.colK ∨ s.h ≤ s.bandY * 4 + s.rowJ) →
    ∃ t, step s = .next t ∧ t.out = s.out ∧ t.outp = s.outp ∧ t.pos = s.pos ∧ t.stream = s.stream ∧ t.dp = s.dp ∧
      t.w = s.w ∧ t.h = s.h ∧ t.xb = s.xb ∧ t.yb = s.yb

/-- R143, R146, R147: the three loops nest with `J` outermost and `K` innermost, so each visit moves the index
`(J*XB + BX)*4 + K` on by one; the last visit of a band releases `BAND` and moves to the next band's first read, or, after
band `YB-1`, to `DONE`. The sizes stay (R138). Taking a loop's exit in the same step, and the values of `J` and `K` after
a band's last visit and of all four counters in `DONE`, are the model's choice (log entry 2), an empty list its way to write a
released `BAND` (log entry 4). -/
def Obligations.EmissionFollowsLoopOrder : Prop :=
  ∀ (s : State) (rest : List HostOp), s.CoreTurn rest → s.status = .busy → s.phase = .emit →
    s.blockX < s.xb → s.rowJ < 4 → s.colK < 4 →
    ∃ t, step s = .next t ∧ t.w = s.w ∧ t.h = s.h ∧ t.xb = s.xb ∧ t.yb = s.yb ∧
      ((s.rowJ * s.xb + s.blockX) * 4 + s.colK + 1 < 16 * s.xb →
        t.status = .busy ∧ t.phase = .emit ∧ t.bandY = s.bandY ∧ t.band = s.band ∧ t.blockX < t.xb ∧ t.rowJ < 4 ∧ t.colK < 4 ∧
        (t.rowJ * t.xb + t.blockX) * 4 + t.colK = (s.rowJ * s.xb + s.blockX) * 4 + s.colK + 1) ∧
      (16 * s.xb ≤ (s.rowJ * s.xb + s.blockX) * 4 + s.colK + 1 →
        t.band = [] ∧ t.bandY = s.bandY + 1 ∧ t.blockX = 0 ∧ t.rowJ = 0 ∧ t.colK = 0 ∧
        (s.bandY + 1 < s.yb → t.status = .busy ∧ t.phase = .read) ∧ (s.yb ≤ s.bandY + 1 → t.status = .done))

/-! ### The host's moves (spec/20_memory.md sections 1 and 7, spec/10_state.md section 2) -/

/-- R36 with the register table of R11: a host read returns the whole register, `CTRL` and every number above 9 read 0,
and nothing but what the host last read changes. That it is so while `BUSY` too is DEDUCED (log entry 17). -/
def Obligations.HostReadsRegister : Prop :=
  ∀ (s : State) (reg : Nat) (rest : List HostOp), s.host = .read reg :: rest →
    ∃ v, step s = .next { s with host := rest, rdata := v } ∧ v.toNat =
      (if reg = 0 then s.reqWidth.toNat else if reg = 1 then s.reqHeight.toNat else if reg = 2 then s.streamLen.toNat
       else if reg = 4 then (match s.status with | .idle => 0 | .busy => 1 | .done => 2 | .error => 3)
       else if reg = 5 then (match s.errKind with
         | .none => 0 | .invalidResolution => 1 | .shortRead => 2 | .allocationFailure => 3 | .unrecognizedMode => 4)
       else if reg = 6 then s.errRequired.toNat else if reg = 7 then s.errAvailable.toNat
       else if reg = 8 then s.resWidth.toNat else if reg = 9 then s.resHeight.toNat else 0)

/-- A host write outside `BUSY` writes the three parameter registers only; a write of `CTRL` with bit 0 clear, of a read-only
register, or of a number above 9 writes nothing. A 32-bit register takes the low 32 bits (the model's choice, log entry 12). -/
def Obligations.HostWritesRegister : Prop :=
  ∀ (s : State) (reg : Nat) (v : BitVec 64) (rest : List HostOp), s.host = .write reg v :: rest → s.status ≠ .busy →
    (reg = 0 → step s = .next { s with host := rest, reqWidth := v.setWidth 32 }) ∧
    (reg = 1 → step s = .next { s with host := rest, reqHeight := v.setWidth 32 }) ∧
    (reg = 2 → step s = .next { s with host := rest, streamLen := v }) ∧
    (reg = 3 → v.getLsbD 0 = false → step s = .next { s with host := rest }) ∧
    (3 < reg → step s = .next { s with host := rest })

/-- R177: while `BUSY` every host write, of any register and of `CTRL` with bit 0 set too, is ignored and not queued. -/
def Obligations.WritesWhileBusyAreIgnored : Prop :=
  ∀ (s : State) (reg : Nat) (v : BitVec 64) (rest : List HostOp), s.host = .write reg v :: rest → s.status = .busy →
    step s = .next { s with host := rest }

/-- A host read of `OUT`: the image byte in `DONE`; an unspecified byte elsewhere, with no other effect than on what the host
read and the free-value counter (log entry 5); in `DONE` an address of `W*H*3` or more stops by name (log entry 13). -/
def Obligations.HostReadsOut : Prop :=
  ∀ (s : State) (addr : Nat) (rest : List HostOp), s.host = .readOut addr :: rest →
    (∀ b, s.status = .done → addr < s.w * s.h * 3 → byteAt s.out addr = some b →
      step s = .next { s with host := rest, rdata := b.setWidth 64 }) ∧
    (s.status ≠ .done → ∃ b : Byte, step s = .next { s with host := rest, rdata := b.setWidth 64, freeCtr := s.freeCtr + 1 }) ∧
    (s.status = .done → s.w * s.h * 3 ≤ addr → step s = .fault (.outAddress addr))

/-- The host supplies a stream outside `BUSY`: from then on `MemRead` gives exactly its bytes, fewer at its end, and nothing else
changes; while `BUSY` the move is refused by name (log entry 14). -/
def Obligations.HostSuppliesStream : Prop :=
  ∀ (s : State) (bytes : List Byte) (rest : List HostOp), s.host = .supply bytes :: rest →
    (s.status ≠ .busy → ∃ t, step s = .next t ∧ t = { s with host := rest, stream := t.stream } ∧ Gapless t.stream ∧
      ∀ addr n, memRead t.stream addr n = (bytes.drop addr).take n) ∧
    (s.status = .busy → step s = .refused .streamChangedWhileBusy)

/-- R170: reset applied in any state, `BUSY` included, puts the registers, the pointers and all counters to 0 and `STATE` to
`IDLE` and records no error. -/
def Obligations.ResetAppliesInAnyState : Prop :=
  ∀ (s : State) (rest : List HostOp), s.host = .reset :: rest →
    ∃ t, step s = .next t ∧ t.reqWidth = 0 ∧ t.reqHeight = 0 ∧ t.streamLen = 0 ∧ t.status = .idle ∧ t.errKind = .none ∧
      t.errRequired = 0 ∧ t.errAvailable = 0 ∧ t.resWidth = 0 ∧ t.resHeight = 0 ∧ t.pos = 0 ∧ t.w = 0 ∧ t.h = 0 ∧ t.xb = 0 ∧
      t.yb = 0 ∧ t.bandY = 0 ∧ t.blockX = 0 ∧ t.rowJ = 0 ∧ t.colK = 0 ∧ t.outp = 0

/-- R28: the values the reset table gives, in the state after reset. -/
def Obligations.ResetValues : Prop :=
  State.reset.reqWidth = 0 ∧ State.reset.reqHeight = 0 ∧ State.reset.streamLen = 0 ∧ State.reset.status = .idle ∧
  State.reset.errKind = .none ∧ State.reset.errRequired = 0 ∧ State.reset.errAvailable = 0 ∧ State.reset.resWidth = 0 ∧
  State.reset.resHeight = 0 ∧ State.reset.pos = 0 ∧ State.reset.w = 0 ∧ State.reset.h = 0 ∧ State.reset.xb = 0 ∧
  State.reset.yb = 0 ∧ State.reset.bandY = 0 ∧ State.reset.blockX = 0 ∧ State.reset.rowJ = 0 ∧ State.reset.colK = 0 ∧
  State.reset.outp = 0 ∧ csrRead State.reset 3 = 0

/-! ### Rules of the whole machine -/

/-- The invariant holds after reset. -/
def Obligations.ResetMeetsInvariant : Prop := State.reset.Inv

/-- The invariant is kept by every step, whatever the host does: sizes, positions, counters, `BAND` and `OUT` are what the
configuration says they are, in every state of a run. That `J` and `K` are 0 while a band after the first is read is the model's
choice (log entry 2). -/
def Obligations.StepKeepsInvariant : Prop :=
  ∀ s t : State, s.Inv → step s = .next t → t.Inv

/-- The three memories keep their canonical form, from any state that has it. -/
def Obligations.StepKeepsMemoryForm : Prop :=
  ∀ s t : State, s.MemoryForm → step s = .next t → t.MemoryForm

/-- Every stream position is a multiple of 8 and every `OUT` position a multiple of 3. -/
def Obligations.StepKeepsPositionsAligned : Prop :=
  ∀ s t : State, s.pos % 8 = 0 → s.outp % 3 = 0 → step s = .next t → t.pos % 8 = 0 ∧ t.outp % 3 = 0

/-- R153: `ERR_KIND = 4` (`UnrecognizedMode`) is never produced: not there after reset, and no step writes it; and every block
decodes. -/
def Obligations.UnrecognizedModeNeverProduced : Prop :=
  State.reset.errKind ≠ .unrecognizedMode ∧ (∀ (l : Layout) (w : Block), ∃ i, decode l (.block w) = .ok i) ∧
  ∀ s t : State, s.errKind ≠ .unrecognizedMode → step s = .next t → t.errKind ≠ .unrecognizedMode

/-- Where the run-state differs after a step, it has changed so (a `START` that aborts or has no block to read passes through
`BUSY` within its step, log entry 2): out of `BUSY` to `DONE` by a pixel visit or to `ERROR` by a short read,
both on the core's own turn, or to `IDLE` by reset; into `IDLE` from elsewhere by reset;
and between `IDLE`, `DONE`, `ERROR` and into `BUSY` only by a host write of `CTRL` with bit 0 set. -/
def Obligations.RunStateTransitions : Prop :=
  ∀ s t : State, step s = .next t → t.status ≠ s.status →
    (t.status = .idle → ∃ rest, s.host = .reset :: rest) ∧
    (s.status ≠ .busy → t.status ≠ .idle → ∃ v rest, s.host = .write 3 v :: rest ∧ v.getLsbD 0 = true) ∧
    (s.status = .busy → t.status ≠ .idle → (∃ rest, s.CoreTurn rest) ∧
      (t.status = .done ∧ s.phase = .emit ∨ t.status = .error ∧ s.phase = .read ∧ t.errKind = .shortRead))

/-- The core never writes the parameter registers, the stream or the run parameters: a step changes a parameter register only
where the host writes it outside `BUSY` or applies reset, the stream only where the host supplies one outside `BUSY`, and the
run parameters never. -/
def Obligations.CoreNeverWritesParameters : Prop :=
  ∀ s t : State, step s = .next t →
    t.par = s.par ∧
    (t.stream ≠ s.stream → s.status ≠ .busy ∧ ∃ bytes rest, s.host = .supply bytes :: rest) ∧
    (t.reqWidth ≠ s.reqWidth → (∃ rest, s.host = .reset :: rest) ∨ s.status ≠ .busy ∧ ∃ v rest, s.host = .write 0 v :: rest) ∧
    (t.reqHeight ≠ s.reqHeight → (∃ rest, s.host = .reset :: rest) ∨ s.status ≠ .busy ∧ ∃ v rest, s.host = .write 1 v :: rest) ∧
    (t.streamLen ≠ s.streamLen → (∃ rest, s.host = .reset :: rest) ∨ s.status ≠ .busy ∧ ∃ v rest, s.host = .write 2 v :: rest)

/-- There is no stuck state: a step stops only at a host read of `OUT` outside its addresses in `DONE` or at a stream changed while
`BUSY`; on the core's turn it always completes; and outside `BUSY` with no move of the host nothing changes. -/
def Obligations.NoStuckState : Prop :=
  (∀ s : State, (∀ addr rest, s.host ≠ .readOut addr :: rest) → (∀ bytes rest, s.host ≠ .supply bytes :: rest) → Completes (step s)) ∧
  (∀ s : State, s.host = [] → s.status ≠ .busy → step s = .next s)

/-- While a decode runs, only the core's turn moves it: a move of the host other than reset changes nothing but the host's own
fields. -/
def Obligations.HostCannotDisturbDecode : Prop :=
  ∀ (s t : State) (op : HostOp) (rest : List HostOp), s.status = .busy → s.host = op :: rest → op ≠ .wait → op ≠ .awaitNotBusy →
    op ≠ .reset → step s = .next t → t = { s with host := rest, rdata := t.rdata, freeCtr := t.freeCtr }

/-- What no decode can observe has no influence on one, the datapath's reset values (log entry 3) and the free values (log entry 5)
among it: from two states of a run that differ only in the datapath registers, the
host's last read and the free-value counter, a step leads to two such states again, or stops both for the same reason. -/
def Obligations.UnobservableStateHasNoInfluence : Prop :=
  ∀ a b : State, a.Inv → SameDecode a b →
    match step a with
    | .next ta => ∃ tb, step b = .next tb ∧ SameDecode ta tb
    | .fault r => step b = .fault r
    | .refused r => step b = .refused r

/-- The step that ends a decode in `DONE` leaves the whole image in `OUT`: pixel `(x, y)` at its raster place is the pixel of the
block of the stream and of the place in the tile that the postcondition names; every block of the grid has been read. -/
def Obligations.DecodeEndsWithWholeImage : Prop :=
  ∀ s t : State, s.Inv → s.status = .busy → step s = .next t → t.status = .done →
    t.HoldsImage ∧ t.outp = t.w * t.h * 3 ∧ t.pos = t.xb * t.yb * 8 ∧ t.resWidth.toNat = t.w ∧ t.resHeight.toNat = t.h ∧
    t.errKind = .none ∧ t.out.map Prod.fst = List.range (t.w * t.h * 3)

/-- A decode that was admitted on a stream that holds every required block is over after exactly `17*XB*YB` steps (`XB*YB` block
reads and `16*XB*YB` pixel visits), still `BUSY` after any smaller number, and ends in `DONE` with the whole image. -/
def Obligations.AdmittedDecodeReachesDone : Prop :=
  ∀ (g : BitVec 31) (s t : State), s.status ≠ .busy → s.host = [] → Gapless s.stream → exec (.start g) s = .next t →
    t.status = .busy → 8 * (t.xb * t.yb) ≤ s.stream.length →
    (∀ k, k < 17 * (t.xb * t.yb) → ∃ v, Host.Core.run core k t = .next v ∧ v.status = .busy) ∧
    ∃ u, Host.Core.run core (17 * (t.xb * t.yb)) t = .next u ∧ u.status = .done ∧ u.HoldsImage ∧
      u.outp = t.w * t.h * 3 ∧ u.pos = t.xb * t.yb * 8 ∧ u.w = t.w ∧ u.h = t.h ∧ u.stream = s.stream ∧ u.par = s.par

/-- A decode that was admitted on a stream that lacks a required block ends in `ERROR` with `ShortRead`: what was available is the
length of the stream, what was required is the end of the first block that is not whole. -/
def Obligations.ShortStreamReachesShortRead : Prop :=
  ∀ (g : BitVec 31) (s t : State), s.status ≠ .busy → s.host = [] → Gapless s.stream → exec (.start g) s = .next t →
    t.status = .busy → s.stream.length < 8 * (t.xb * t.yb) →
    ∃ n u, Host.Core.run core n t = .next u ∧ u.status = .error ∧ u.errKind = .shortRead ∧
      u.errAvailable.toNat = s.stream.length ∧ u.errRequired.toNat = 8 * (s.stream.length / 8) + 8 ∧
      u.resWidth = t.resWidth ∧ u.resHeight = t.resHeight
end

