-- ==== Sys2Proof/Laws/Decode.lean ====
section
/-!
SUPPORT. What a bit of an extracted or placed field is; every claim about the decoder and the encoder goes through these two.
-/

namespace Sys2Proof

@[simp] theorem getLsbD_field (w : Block) (lo n i : Nat) :
    (field w lo n).getLsbD i = (decide (i < n) && w.getLsbD (lo + i)) := by
  simp [field]

@[simp] theorem getLsbD_place {n : Nat} (v : BitVec n) (lo i : Nat) :
    (place v lo).getLsbD i = (decide (i < 64) && decide (lo ≤ i) && v.getLsbD (i - lo)) := by
  simp only [place, BitVec.getLsbD_shiftLeft, BitVec.getLsbD_setWidth]
  by_cases h : i < 64
  · have : i - lo < 64 := by omega
    have e : (!decide (i < lo)) = decide (lo ≤ i) := by
      by_cases h' : i < lo
      · simp [h', Nat.not_le.mpr h']
      · simp [h', Nat.le_of_not_lt h']
    simp [h, this, e]
  · simp [h]

@[simp] theorem getElem_field (w : Block) (lo n i : Nat) (h : i < n) : (field w lo n)[i] = w.getLsbD (lo + i) := by
  rw [← BitVec.getLsbD_eq_getElem, getLsbD_field]
  simp [h]

@[simp] theorem getElem_place {n : Nat} (v : BitVec n) (lo i : Nat) (h : i < 64) :
    (place v lo)[i] = (decide (lo ≤ i) && v.getLsbD (i - lo)) := by
  rw [← BitVec.getLsbD_eq_getElem, getLsbD_place]
  simp [h]

/-- Two blocks that agree on every bit below 64 are equal. -/
theorem block_ext {a b : Block} (h : ∀ i, i < 64 → a.getLsbD i = b.getLsbD i) : a = b :=
  BitVec.eq_of_getLsbD_eq h

/-- Reading 8 bytes as a block never fails, and only 8 bytes are a block. -/
theorem blockOfBytes_isSome_iff (bs : List Byte) : (blockOfBytes bs).isSome = decide (bs.length = 8) := by
  match bs with
  | [] => rfl
  | [_] => rfl
  | [_, _] => rfl
  | [_, _, _] => rfl
  | [_, _, _, _] => rfl
  | [_, _, _, _, _] => rfl
  | [_, _, _, _, _, _] => rfl
  | [_, _, _, _, _, _, _] => rfl
  | [_, _, _, _, _, _, _, _] => rfl
  | _ :: _ :: _ :: _ :: _ :: _ :: _ :: _ :: _ :: _ => simp [blockOfBytes]

end Sys2Proof
end

