-- ==== Sys2Proof/Laws/Memory.lean ====
section
/-!
SUPPORT. The laws of the sparse stores: read after write, what a write leaves alone, and that every memory operation keeps the
canonical form.
-/

namespace Sys2Proof.Machine

@[simp] theorem Store.read_nil {α : Type} (a : Nat) : Store.read ([] : Store α) a = none := rfl

theorem Store.read_cons {α : Type} (k : Nat) (v : α) (m : Store α) (a : Nat) :
    Store.read ((k, v) :: m) a = if a = k then some v else Store.read m a := rfl

@[simp] theorem Store.read_write_same {α : Type} (m : Store α) (a : Nat) (v : α) :
    Store.read (Store.write m a v) a = some v := by
  induction m with
  | nil => simp [Store.write, Store.read_cons]
  | cons c m ih =>
    obtain ⟨k, u⟩ := c
    rw [Store.write]
    split
    · simp [Store.read_cons]
    · split
      · simp [Store.read_cons]
      · rw [Store.read_cons, if_neg ‹_›, ih]

theorem Store.read_write_other {α : Type} (m : Store α) {a b : Nat} (v : α) (h : b ≠ a) :
    Store.read (Store.write m a v) b = Store.read m b := by
  induction m with
  | nil => simp [Store.write, Store.read_cons, h]
  | cons c m ih =>
    obtain ⟨k, u⟩ := c
    rw [Store.write]
    split
    · simp [Store.read_cons, h]
    · split
      · subst_vars
        simp [Store.read_cons, h]
      · rw [Store.read_cons, Store.read_cons, ih]

/-- A key that a written store lists is the written one or was listed before. -/
theorem Store.mem_write_key {α : Type} {m : Store α} {a : Nat} {v : α} {c : Nat × α} (h : c ∈ Store.write m a v) :
    c.1 = a ∨ ∃ d ∈ m, d.1 = c.1 := by
  induction m with
  | nil =>
    simp only [Store.write, List.mem_singleton] at h
    exact .inl (by rw [h])
  | cons e m ih =>
    obtain ⟨k, u⟩ := e
    rw [Store.write] at h
    split at h
    · rcases List.mem_cons.mp h with rfl | h
      · exact .inl rfl
      · exact .inr ⟨c, h, rfl⟩
    · split at h
      · rcases List.mem_cons.mp h with rfl | h
        · exact .inl rfl
        · exact .inr ⟨c, List.mem_cons_of_mem _ h, rfl⟩
      · rcases List.mem_cons.mp h with rfl | h
        · exact .inr ⟨(k, u), List.mem_cons_self, rfl⟩
        · rcases ih h with h | ⟨d, hd, e⟩
          · exact .inl h
          · exact .inr ⟨d, List.mem_cons_of_mem _ hd, e⟩

theorem Store.write_wf {α : Type} {m : Store α} (h : Store.wf m) (a : Nat) (v : α) : Store.wf (Store.write m a v) := by
  induction m with
  | nil => simp [Store.write]
  | cons e m ih =>
    obtain ⟨k, u⟩ := e
    have hk := (List.pairwise_cons.mp h).1
    have hm := (List.pairwise_cons.mp h).2
    rw [Store.write]
    split
    · rename_i lt
      refine List.pairwise_cons.mpr ⟨fun c hc => ?_, h⟩
      rcases List.mem_cons.mp hc with rfl | hc
      · exact lt
      · exact lt_trans lt (hk c hc)
    · split
      · subst_vars
        exact List.pairwise_cons.mpr ⟨hk, hm⟩
      · refine List.pairwise_cons.mpr ⟨fun c hc => ?_, ih hm⟩
        rcases Store.mem_write_key hc with h' | ⟨d, hd, e⟩
        · simp only [h']
          omega
        · rw [← e]
          exact hk d hd

/-- In a store in canonical form, a listed pair is what a read of its key gives. -/
theorem Store.read_of_mem {α : Type} {m : Store α} (h : Store.wf m) {c : Nat × α} (hc : c ∈ m) :
    Store.read m c.1 = some c.2 := by
  induction m with
  | nil => cases hc
  | cons e m ih =>
    obtain ⟨k, u⟩ := e
    have hk := (List.pairwise_cons.mp h).1
    rcases List.mem_cons.mp hc with rfl | hc
    · simp [Store.read_cons]
    · have : c.1 ≠ k := by have := hk c hc; simp only at this; omega
      rw [Store.read_cons, if_neg this, ih (List.pairwise_cons.mp h).2 hc]

theorem memWrite_wf {m : Memory} (h : Memory.wf m) (addr : Nat) (bs : List Byte) : Memory.wf (memWrite m addr bs) := by
  induction bs generalizing m addr with
  | nil => exact h
  | cons b bs ih => exact ih (Store.write_wf h addr b) (addr + 1)

/-- A write leaves every byte outside the written ones alone. -/
theorem byteAt_memWrite_other (m : Memory) {addr a : Nat} (bs : List Byte) (h : a < addr ∨ addr + bs.length ≤ a) :
    byteAt (memWrite m addr bs) a = byteAt m a := by
  induction bs generalizing m addr with
  | nil => rfl
  | cons b bs ih =>
    rw [List.length_cons] at h
    rw [memWrite, ih _ (by omega)]
    exact Store.read_write_other m b (by omega)

/-- A written byte reads as written. -/
theorem byteAt_memWrite_same (m : Memory) (addr : Nat) (bs : List Byte) {i : Nat} (h : i < bs.length) :
    byteAt (memWrite m addr bs) (addr + i) = some bs[i] := by
  induction bs generalizing m addr i with
  | nil => simp at h
  | cons b bs ih =>
    cases i with
    | zero =>
      rw [memWrite, byteAt_memWrite_other _ _ (by omega)]
      exact Store.read_write_same m addr b
    | succ i =>
      have := ih (Store.write m addr b) (addr + 1) (i := i) (by simpa using h)
      simpa [memWrite, Nat.add_assoc, Nat.add_comm 1 i] using this

theorem memOfBytes_keys (addr : Nat) (bs : List Byte) :
    (memOfBytes addr bs).map Prod.fst = List.range' addr bs.length := by
  induction bs generalizing addr with
  | nil => rfl
  | cons b bs ih => simp [memOfBytes, ih, List.range'_succ]

@[simp] theorem memOfBytes_length (addr : Nat) (bs : List Byte) : (memOfBytes addr bs).length = bs.length := by
  induction bs generalizing addr with
  | nil => rfl
  | cons b bs ih => simp [memOfBytes, ih]

theorem memOfBytes_wf (addr : Nat) (bs : List Byte) : Memory.wf (memOfBytes addr bs) := by
  induction bs generalizing addr with
  | nil => exact List.Pairwise.nil
  | cons b bs ih =>
    refine List.pairwise_cons.mpr ⟨fun c hc => ?_, ih (addr + 1)⟩
    have : c.1 ∈ (memOfBytes (addr + 1) bs).map Prod.fst := List.mem_map_of_mem hc
    rw [memOfBytes_keys, List.mem_range'_1] at this
    simp only
    omega

theorem byteAt_memOfBytes (addr : Nat) (bs : List Byte) {i : Nat} (h : i < bs.length) :
    byteAt (memOfBytes addr bs) (addr + i) = some bs[i] := by
  induction bs generalizing addr i with
  | nil => simp at h
  | cons b bs ih =>
    cases i with
    | zero => simp [memOfBytes, byteAt, Store.read_cons]
    | succ i =>
      have := ih (addr + 1) (i := i) (by simpa using h)
      rw [Nat.add_assoc, Nat.add_comm 1 i] at this
      simpa [memOfBytes, byteAt, Store.read_cons] using this

theorem memRead_length_le (m : Memory) (addr n : Nat) : (memRead m addr n).length ≤ n := by
  induction n generalizing addr with
  | zero => simp [memRead]
  | succ n ih =>
    rw [memRead]
    split
    · simpa using ih (addr + 1)
    · simp

/-- Byte `i` of what `MemRead` returns is the byte at `addr + i`. -/
theorem memRead_getElem (m : Memory) (addr n : Nat) {i : Nat} (h : i < (memRead m addr n).length) :
    byteAt m (addr + i) = some (memRead m addr n)[i] := by
  induction n generalizing addr i with
  | zero => simp [memRead] at h
  | succ n ih =>
    cases e : byteAt m addr with
    | none => simp [memRead, e] at h
    | some b =>
      have hr : memRead m addr (n + 1) = b :: memRead m (addr + 1) n := by simp [memRead, e]
      cases i with
      | zero => simp [hr, e]
      | succ i =>
        simp only [hr, List.length_cons, Nat.add_lt_add_iff_right] at h
        have := ih (addr + 1) h
        simpa [hr, Nat.add_assoc, Nat.add_comm 1 i] using this

/-- `MemRead` returns all `n` bytes when each is there. -/
theorem memRead_length_eq (m : Memory) (addr n : Nat) (h : ∀ i, i < n → ∃ b, byteAt m (addr + i) = some b) :
    (memRead m addr n).length = n := by
  induction n generalizing addr with
  | zero => rfl
  | succ n ih =>
    obtain ⟨b, hb⟩ := h 0 (by omega)
    rw [Nat.add_zero] at hb
    have := ih (addr + 1) fun i hi => by
      have := h (i + 1) (by omega)
      rwa [Nat.add_comm i 1, ← Nat.add_assoc] at this
    simp [memRead, hb, this]

@[simp] theorem bandPixel_write_same (m : Store Tile) (x i : Nat) (d : Tile) :
    bandPixel (bandWrite m x d) x i = tileGet d i := by
  simp [bandPixel, bandWrite]

theorem bandPixel_write_other (m : Store Tile) {x y : Nat} (i : Nat) (d : Tile) (h : y ≠ x) :
    bandPixel (bandWrite m x d) y i = bandPixel m y i := by
  simp only [bandPixel, bandWrite, Store.read_write_other m d h]

theorem bandWrite_wf {m : Store Tile} (h : Store.wf m) (x : Nat) (d : Tile) : Store.wf (bandWrite m x d) :=
  Store.write_wf h x d

theorem reset_memories_wf :
    Memory.wf State.reset.stream ∧ Memory.wf State.reset.out ∧ Store.wf State.reset.band :=
  ⟨List.Pairwise.nil, List.Pairwise.nil, List.Pairwise.nil⟩

end Sys2Proof.Machine
end

