-- ==== Sys2Proof/Laws/PerInstr.lean ====
section
/-!
SUPPORT. The per-instruction family `EncodedDiff`: the encoder sets the bit that tells the formats apart, `DIFF` for a block
(spec/30_encoding.md R51 to R56) and bit 0 for a `CTRL` value (R62), as the instruction's format says.
-/

namespace Sys2Proof.Laws.EncodedDiff

/-- The telling bit of the encoding of `i` under the spec's layout. -/
def Statement (i : Instr) : Prop :=
  match encode Machine.specLayout i with
  | .block w =>
    diffBit w = (match i with
      | .individual _ => false
      | .differential _ => true
      | .t _ => true
      | .h _ => true
      | .planar _ => true
      | .start _ => false)
  | .ctrl v => v.getLsbD 0 = true

theorem individual (f : IndividualFields) : Statement (.individual f) := by
  simp [Statement, encode, diffBit, individualWord, Machine.specLayout, Machine.individualLayout, diffPos, idxHiPos, idxLoPos]

theorem differential (f : DifferentialFields) : Statement (.differential f) := by
  simp [Statement, encode, diffBit, differentialWord, Machine.specLayout, Machine.differentialLayout, diffPos, idxHiPos, idxLoPos]

theorem t (f : TFields) : Statement (.t f) := by
  simp [Statement, encode, diffBit, tWord, Machine.specLayout, Machine.tLayout, diffPos, idxHiPos, idxLoPos]

theorem h (f : HFields) : Statement (.h f) := by
  simp [Statement, encode, diffBit, hWord, Machine.specLayout, Machine.hLayout, diffPos, idxHiPos, idxLoPos]

theorem planar (f : PlanarFields) : Statement (.planar f) := by
  simp [Statement, encode, diffBit, planarWord, Machine.specLayout, Machine.planarLayout, diffPos]

theorem start (ignored : BitVec 31) : Statement (.start ignored) := by
  change (ignored ++ (1 : BitVec 1)).getLsbD 0 = true
  rw [BitVec.getLsbD_append]
  simp

end Sys2Proof.Laws.EncodedDiff
end

