-- ==== Sys2Proof/Laws/Reconstruct.lean ====
section
/-!
SUPPORT. The small lemmas of tiles and channels.
-/

namespace Sys2Proof.Machine

theorem tileGet_tileOf (f : Nat → Pixel) {i : Nat} (h : i < 16) : tileGet (tileOf f) i = some (f i) := by
  interval_cases i <;> rfl

/-- Two tiles with the same 16 pixels are equal. -/
theorem tile_ext {a b : Tile} (h : ∀ i, i < 16 → tileGet a i = tileGet b i) : a = b := by
  have e : ∀ i, i < 16 → tileGet a i = tileGet b i := h
  cases a
  cases b
  have h0 := e 0 (by omega); have h1 := e 1 (by omega); have h2 := e 2 (by omega); have h3 := e 3 (by omega)
  have h4 := e 4 (by omega); have h5 := e 5 (by omega); have h6 := e 6 (by omega); have h7 := e 7 (by omega)
  have h8 := e 8 (by omega); have h9 := e 9 (by omega); have h10 := e 10 (by omega); have h11 := e 11 (by omega)
  have h12 := e 12 (by omega); have h13 := e 13 (by omega); have h14 := e 14 (by omega); have h15 := e 15 (by omega)
  simp only [tileGet, Option.some.injEq] at *
  simp_all

theorem tileGet_isSome {t : Tile} {i : Nat} (h : i < 16) : ∃ p, tileGet t i = some p := by
  interval_cases i <;> exact ⟨_, rfl⟩

end Sys2Proof.Machine
end

