-- ==== Sys2Proof/Laws/State.lean ====
section
/-!
SUPPORT. One lemma per field and named update of the state, each true by unfolding the update once, so that no later proof
unfolds a record update.
-/

namespace Sys2Proof.Machine

/-! ### `raise` -/

@[simp] theorem raise_reqWidth (s : State) (kind : ErrKind) (required available : Nat) : (raise s kind required available).reqWidth = s.reqWidth := rfl
@[simp] theorem raise_reqHeight (s : State) (kind : ErrKind) (required available : Nat) : (raise s kind required available).reqHeight = s.reqHeight := rfl
@[simp] theorem raise_streamLen (s : State) (kind : ErrKind) (required available : Nat) : (raise s kind required available).streamLen = s.streamLen := rfl
@[simp] theorem raise_status (s : State) (kind : ErrKind) (required available : Nat) : (raise s kind required available).status = .error := rfl
@[simp] theorem raise_errKind (s : State) (kind : ErrKind) (required available : Nat) : (raise s kind required available).errKind = kind := rfl
@[simp] theorem raise_errRequired (s : State) (kind : ErrKind) (required available : Nat) : (raise s kind required available).errRequired = BitVec.ofNat 64 required := rfl
@[simp] theorem raise_errAvailable (s : State) (kind : ErrKind) (required available : Nat) : (raise s kind required available).errAvailable = BitVec.ofNat 64 available := rfl
@[simp] theorem raise_resWidth (s : State) (kind : ErrKind) (required available : Nat) : (raise s kind required available).resWidth = s.resWidth := rfl
@[simp] theorem raise_resHeight (s : State) (kind : ErrKind) (required available : Nat) : (raise s kind required available).resHeight = s.resHeight := rfl
@[simp] theorem raise_pos (s : State) (kind : ErrKind) (required available : Nat) : (raise s kind required available).pos = s.pos := rfl
@[simp] theorem raise_w (s : State) (kind : ErrKind) (required available : Nat) : (raise s kind required available).w = s.w := rfl
@[simp] theorem raise_h (s : State) (kind : ErrKind) (required available : Nat) : (raise s kind required available).h = s.h := rfl
@[simp] theorem raise_xb (s : State) (kind : ErrKind) (required available : Nat) : (raise s kind required available).xb = s.xb := rfl
@[simp] theorem raise_yb (s : State) (kind : ErrKind) (required available : Nat) : (raise s kind required available).yb = s.yb := rfl
@[simp] theorem raise_bandY (s : State) (kind : ErrKind) (required available : Nat) : (raise s kind required available).bandY = s.bandY := rfl
@[simp] theorem raise_blockX (s : State) (kind : ErrKind) (required available : Nat) : (raise s kind required available).blockX = s.blockX := rfl
@[simp] theorem raise_rowJ (s : State) (kind : ErrKind) (required available : Nat) : (raise s kind required available).rowJ = s.rowJ := rfl
@[simp] theorem raise_colK (s : State) (kind : ErrKind) (required available : Nat) : (raise s kind required available).colK = s.colK := rfl
@[simp] theorem raise_outp (s : State) (kind : ErrKind) (required available : Nat) : (raise s kind required available).outp = s.outp := rfl
@[simp] theorem raise_phase (s : State) (kind : ErrKind) (required available : Nat) : (raise s kind required available).phase = s.phase := rfl
@[simp] theorem raise_dp (s : State) (kind : ErrKind) (required available : Nat) : (raise s kind required available).dp = s.dp := rfl
@[simp] theorem raise_band (s : State) (kind : ErrKind) (required available : Nat) : (raise s kind required available).band = [] := rfl
@[simp] theorem raise_out (s : State) (kind : ErrKind) (required available : Nat) : (raise s kind required available).out = [] := rfl
@[simp] theorem raise_stream (s : State) (kind : ErrKind) (required available : Nat) : (raise s kind required available).stream = s.stream := rfl
@[simp] theorem raise_par (s : State) (kind : ErrKind) (required available : Nat) : (raise s kind required available).par = s.par := rfl
@[simp] theorem raise_host (s : State) (kind : ErrKind) (required available : Nat) : (raise s kind required available).host = s.host := rfl
@[simp] theorem raise_rdata (s : State) (kind : ErrKind) (required available : Nat) : (raise s kind required available).rdata = s.rdata := rfl
@[simp] theorem raise_freeCtr (s : State) (kind : ErrKind) (required available : Nat) : (raise s kind required available).freeCtr = s.freeCtr := rfl

/-! ### `startEntry` -/

@[simp] theorem startEntry_reqWidth (s : State) : (startEntry s).reqWidth = s.reqWidth := rfl
@[simp] theorem startEntry_reqHeight (s : State) : (startEntry s).reqHeight = s.reqHeight := rfl
@[simp] theorem startEntry_streamLen (s : State) : (startEntry s).streamLen = s.streamLen := rfl
@[simp] theorem startEntry_status (s : State) : (startEntry s).status = .busy := rfl
@[simp] theorem startEntry_errKind (s : State) : (startEntry s).errKind = .none := rfl
@[simp] theorem startEntry_errRequired (s : State) : (startEntry s).errRequired = 0 := rfl
@[simp] theorem startEntry_errAvailable (s : State) : (startEntry s).errAvailable = 0 := rfl
@[simp] theorem startEntry_resWidth (s : State) : (startEntry s).resWidth = 0 := rfl
@[simp] theorem startEntry_resHeight (s : State) : (startEntry s).resHeight = 0 := rfl
@[simp] theorem startEntry_pos (s : State) : (startEntry s).pos = 0 := rfl
@[simp] theorem startEntry_w (s : State) : (startEntry s).w = s.w := rfl
@[simp] theorem startEntry_h (s : State) : (startEntry s).h = s.h := rfl
@[simp] theorem startEntry_xb (s : State) : (startEntry s).xb = s.xb := rfl
@[simp] theorem startEntry_yb (s : State) : (startEntry s).yb = s.yb := rfl
@[simp] theorem startEntry_bandY (s : State) : (startEntry s).bandY = 0 := rfl
@[simp] theorem startEntry_blockX (s : State) : (startEntry s).blockX = 0 := rfl
@[simp] theorem startEntry_rowJ (s : State) : (startEntry s).rowJ = 0 := rfl
@[simp] theorem startEntry_colK (s : State) : (startEntry s).colK = 0 := rfl
@[simp] theorem startEntry_outp (s : State) : (startEntry s).outp = 0 := rfl
@[simp] theorem startEntry_phase (s : State) : (startEntry s).phase = .read := rfl
@[simp] theorem startEntry_dp (s : State) : (startEntry s).dp = s.dp := rfl
@[simp] theorem startEntry_band (s : State) : (startEntry s).band = [] := rfl
@[simp] theorem startEntry_out (s : State) : (startEntry s).out = [] := rfl
@[simp] theorem startEntry_stream (s : State) : (startEntry s).stream = s.stream := rfl
@[simp] theorem startEntry_par (s : State) : (startEntry s).par = s.par := rfl
@[simp] theorem startEntry_host (s : State) : (startEntry s).host = s.host := rfl
@[simp] theorem startEntry_rdata (s : State) : (startEntry s).rdata = s.rdata := rfl
@[simp] theorem startEntry_freeCtr (s : State) : (startEntry s).freeCtr = s.freeCtr := rfl

/-! ### `publish` -/

@[simp] theorem publish_reqWidth (s : State) (w h : Nat) : (publish s w h).reqWidth = s.reqWidth := rfl
@[simp] theorem publish_reqHeight (s : State) (w h : Nat) : (publish s w h).reqHeight = s.reqHeight := rfl
@[simp] theorem publish_streamLen (s : State) (w h : Nat) : (publish s w h).streamLen = s.streamLen := rfl
@[simp] theorem publish_status (s : State) (w h : Nat) : (publish s w h).status = s.status := rfl
@[simp] theorem publish_errKind (s : State) (w h : Nat) : (publish s w h).errKind = s.errKind := rfl
@[simp] theorem publish_errRequired (s : State) (w h : Nat) : (publish s w h).errRequired = s.errRequired := rfl
@[simp] theorem publish_errAvailable (s : State) (w h : Nat) : (publish s w h).errAvailable = s.errAvailable := rfl
@[simp] theorem publish_resWidth (s : State) (w h : Nat) : (publish s w h).resWidth = BitVec.ofNat 32 w := rfl
@[simp] theorem publish_resHeight (s : State) (w h : Nat) : (publish s w h).resHeight = BitVec.ofNat 32 h := rfl
@[simp] theorem publish_pos (s : State) (w h : Nat) : (publish s w h).pos = s.pos := rfl
@[simp] theorem publish_w (s : State) (w h : Nat) : (publish s w h).w = w := rfl
@[simp] theorem publish_h (s : State) (w h : Nat) : (publish s w h).h = h := rfl
@[simp] theorem publish_xb (s : State) (w h : Nat) : (publish s w h).xb = ceil4 w := rfl
@[simp] theorem publish_yb (s : State) (w h : Nat) : (publish s w h).yb = ceil4 h := rfl
@[simp] theorem publish_bandY (s : State) (w h : Nat) : (publish s w h).bandY = s.bandY := rfl
@[simp] theorem publish_blockX (s : State) (w h : Nat) : (publish s w h).blockX = s.blockX := rfl
@[simp] theorem publish_rowJ (s : State) (w h : Nat) : (publish s w h).rowJ = s.rowJ := rfl
@[simp] theorem publish_colK (s : State) (w h : Nat) : (publish s w h).colK = s.colK := rfl
@[simp] theorem publish_outp (s : State) (w h : Nat) : (publish s w h).outp = s.outp := rfl
@[simp] theorem publish_phase (s : State) (w h : Nat) : (publish s w h).phase = s.phase := rfl
@[simp] theorem publish_dp (s : State) (w h : Nat) : (publish s w h).dp = s.dp := rfl
@[simp] theorem publish_band (s : State) (w h : Nat) : (publish s w h).band = s.band := rfl
@[simp] theorem publish_out (s : State) (w h : Nat) : (publish s w h).out = s.out := rfl
@[simp] theorem publish_stream (s : State) (w h : Nat) : (publish s w h).stream = s.stream := rfl
@[simp] theorem publish_par (s : State) (w h : Nat) : (publish s w h).par = s.par := rfl
@[simp] theorem publish_host (s : State) (w h : Nat) : (publish s w h).host = s.host := rfl
@[simp] theorem publish_rdata (s : State) (w h : Nat) : (publish s w h).rdata = s.rdata := rfl
@[simp] theorem publish_freeCtr (s : State) (w h : Nat) : (publish s w h).freeCtr = s.freeCtr := rfl

/-! ### `appendPixel` -/

@[simp] theorem appendPixel_reqWidth (s : State) (p : Pixel) : (appendPixel s p).reqWidth = s.reqWidth := rfl
@[simp] theorem appendPixel_reqHeight (s : State) (p : Pixel) : (appendPixel s p).reqHeight = s.reqHeight := rfl
@[simp] theorem appendPixel_streamLen (s : State) (p : Pixel) : (appendPixel s p).streamLen = s.streamLen := rfl
@[simp] theorem appendPixel_status (s : State) (p : Pixel) : (appendPixel s p).status = s.status := rfl
@[simp] theorem appendPixel_errKind (s : State) (p : Pixel) : (appendPixel s p).errKind = s.errKind := rfl
@[simp] theorem appendPixel_errRequired (s : State) (p : Pixel) : (appendPixel s p).errRequired = s.errRequired := rfl
@[simp] theorem appendPixel_errAvailable (s : State) (p : Pixel) : (appendPixel s p).errAvailable = s.errAvailable := rfl
@[simp] theorem appendPixel_resWidth (s : State) (p : Pixel) : (appendPixel s p).resWidth = s.resWidth := rfl
@[simp] theorem appendPixel_resHeight (s : State) (p : Pixel) : (appendPixel s p).resHeight = s.resHeight := rfl
@[simp] theorem appendPixel_pos (s : State) (p : Pixel) : (appendPixel s p).pos = s.pos := rfl
@[simp] theorem appendPixel_w (s : State) (p : Pixel) : (appendPixel s p).w = s.w := rfl
@[simp] theorem appendPixel_h (s : State) (p : Pixel) : (appendPixel s p).h = s.h := rfl
@[simp] theorem appendPixel_xb (s : State) (p : Pixel) : (appendPixel s p).xb = s.xb := rfl
@[simp] theorem appendPixel_yb (s : State) (p : Pixel) : (appendPixel s p).yb = s.yb := rfl
@[simp] theorem appendPixel_bandY (s : State) (p : Pixel) : (appendPixel s p).bandY = s.bandY := rfl
@[simp] theorem appendPixel_blockX (s : State) (p : Pixel) : (appendPixel s p).blockX = s.blockX := rfl
@[simp] theorem appendPixel_rowJ (s : State) (p : Pixel) : (appendPixel s p).rowJ = s.rowJ := rfl
@[simp] theorem appendPixel_colK (s : State) (p : Pixel) : (appendPixel s p).colK = s.colK := rfl
@[simp] theorem appendPixel_outp (s : State) (p : Pixel) : (appendPixel s p).outp = s.outp + 3 := rfl
@[simp] theorem appendPixel_phase (s : State) (p : Pixel) : (appendPixel s p).phase = s.phase := rfl
@[simp] theorem appendPixel_dp (s : State) (p : Pixel) : (appendPixel s p).dp = s.dp := rfl
@[simp] theorem appendPixel_band (s : State) (p : Pixel) : (appendPixel s p).band = s.band := rfl
@[simp] theorem appendPixel_out (s : State) (p : Pixel) : (appendPixel s p).out = memWrite s.out s.outp [p.r, p.g, p.b] := rfl
@[simp] theorem appendPixel_stream (s : State) (p : Pixel) : (appendPixel s p).stream = s.stream := rfl
@[simp] theorem appendPixel_par (s : State) (p : Pixel) : (appendPixel s p).par = s.par := rfl
@[simp] theorem appendPixel_host (s : State) (p : Pixel) : (appendPixel s p).host = s.host := rfl
@[simp] theorem appendPixel_rdata (s : State) (p : Pixel) : (appendPixel s p).rdata = s.rdata := rfl
@[simp] theorem appendPixel_freeCtr (s : State) (p : Pixel) : (appendPixel s p).freeCtr = s.freeCtr := rfl

/-! ### `readUnspecified` -/

@[simp] theorem readUnspecified_reqWidth (s : State) : (readUnspecified s).reqWidth = s.reqWidth := rfl
@[simp] theorem readUnspecified_reqHeight (s : State) : (readUnspecified s).reqHeight = s.reqHeight := rfl
@[simp] theorem readUnspecified_streamLen (s : State) : (readUnspecified s).streamLen = s.streamLen := rfl
@[simp] theorem readUnspecified_status (s : State) : (readUnspecified s).status = s.status := rfl
@[simp] theorem readUnspecified_errKind (s : State) : (readUnspecified s).errKind = s.errKind := rfl
@[simp] theorem readUnspecified_errRequired (s : State) : (readUnspecified s).errRequired = s.errRequired := rfl
@[simp] theorem readUnspecified_errAvailable (s : State) : (readUnspecified s).errAvailable = s.errAvailable := rfl
@[simp] theorem readUnspecified_resWidth (s : State) : (readUnspecified s).resWidth = s.resWidth := rfl
@[simp] theorem readUnspecified_resHeight (s : State) : (readUnspecified s).resHeight = s.resHeight := rfl
@[simp] theorem readUnspecified_pos (s : State) : (readUnspecified s).pos = s.pos := rfl
@[simp] theorem readUnspecified_w (s : State) : (readUnspecified s).w = s.w := rfl
@[simp] theorem readUnspecified_h (s : State) : (readUnspecified s).h = s.h := rfl
@[simp] theorem readUnspecified_xb (s : State) : (readUnspecified s).xb = s.xb := rfl
@[simp] theorem readUnspecified_yb (s : State) : (readUnspecified s).yb = s.yb := rfl
@[simp] theorem readUnspecified_bandY (s : State) : (readUnspecified s).bandY = s.bandY := rfl
@[simp] theorem readUnspecified_blockX (s : State) : (readUnspecified s).blockX = s.blockX := rfl
@[simp] theorem readUnspecified_rowJ (s : State) : (readUnspecified s).rowJ = s.rowJ := rfl
@[simp] theorem readUnspecified_colK (s : State) : (readUnspecified s).colK = s.colK := rfl
@[simp] theorem readUnspecified_outp (s : State) : (readUnspecified s).outp = s.outp := rfl
@[simp] theorem readUnspecified_phase (s : State) : (readUnspecified s).phase = s.phase := rfl
@[simp] theorem readUnspecified_dp (s : State) : (readUnspecified s).dp = s.dp := rfl
@[simp] theorem readUnspecified_band (s : State) : (readUnspecified s).band = s.band := rfl
@[simp] theorem readUnspecified_out (s : State) : (readUnspecified s).out = s.out := rfl
@[simp] theorem readUnspecified_stream (s : State) : (readUnspecified s).stream = s.stream := rfl
@[simp] theorem readUnspecified_par (s : State) : (readUnspecified s).par = s.par := rfl
@[simp] theorem readUnspecified_host (s : State) : (readUnspecified s).host = s.host := rfl
@[simp] theorem readUnspecified_rdata (s : State) : (readUnspecified s).rdata = (Config.freeByte s.freeCtr).setWidth 64 := rfl
@[simp] theorem readUnspecified_freeCtr (s : State) : (readUnspecified s).freeCtr = s.freeCtr + 1 := rfl

/-! ### `resetCore` -/

@[simp] theorem resetCore_reqWidth (s : State) : (resetCore s).reqWidth = State.reset.reqWidth := rfl
@[simp] theorem resetCore_reqHeight (s : State) : (resetCore s).reqHeight = State.reset.reqHeight := rfl
@[simp] theorem resetCore_streamLen (s : State) : (resetCore s).streamLen = State.reset.streamLen := rfl
@[simp] theorem resetCore_status (s : State) : (resetCore s).status = State.reset.status := rfl
@[simp] theorem resetCore_errKind (s : State) : (resetCore s).errKind = State.reset.errKind := rfl
@[simp] theorem resetCore_errRequired (s : State) : (resetCore s).errRequired = State.reset.errRequired := rfl
@[simp] theorem resetCore_errAvailable (s : State) : (resetCore s).errAvailable = State.reset.errAvailable := rfl
@[simp] theorem resetCore_resWidth (s : State) : (resetCore s).resWidth = State.reset.resWidth := rfl
@[simp] theorem resetCore_resHeight (s : State) : (resetCore s).resHeight = State.reset.resHeight := rfl
@[simp] theorem resetCore_pos (s : State) : (resetCore s).pos = State.reset.pos := rfl
@[simp] theorem resetCore_w (s : State) : (resetCore s).w = State.reset.w := rfl
@[simp] theorem resetCore_h (s : State) : (resetCore s).h = State.reset.h := rfl
@[simp] theorem resetCore_xb (s : State) : (resetCore s).xb = State.reset.xb := rfl
@[simp] theorem resetCore_yb (s : State) : (resetCore s).yb = State.reset.yb := rfl
@[simp] theorem resetCore_bandY (s : State) : (resetCore s).bandY = State.reset.bandY := rfl
@[simp] theorem resetCore_blockX (s : State) : (resetCore s).blockX = State.reset.blockX := rfl
@[simp] theorem resetCore_rowJ (s : State) : (resetCore s).rowJ = State.reset.rowJ := rfl
@[simp] theorem resetCore_colK (s : State) : (resetCore s).colK = State.reset.colK := rfl
@[simp] theorem resetCore_outp (s : State) : (resetCore s).outp = State.reset.outp := rfl
@[simp] theorem resetCore_phase (s : State) : (resetCore s).phase = State.reset.phase := rfl
@[simp] theorem resetCore_dp (s : State) : (resetCore s).dp = State.reset.dp := rfl
@[simp] theorem resetCore_band (s : State) : (resetCore s).band = State.reset.band := rfl
@[simp] theorem resetCore_out (s : State) : (resetCore s).out = State.reset.out := rfl
@[simp] theorem resetCore_stream (s : State) : (resetCore s).stream = s.stream := rfl
@[simp] theorem resetCore_par (s : State) : (resetCore s).par = s.par := rfl
@[simp] theorem resetCore_host (s : State) : (resetCore s).host = s.host := rfl
@[simp] theorem resetCore_rdata (s : State) : (resetCore s).rdata = s.rdata := rfl
@[simp] theorem resetCore_freeCtr (s : State) : (resetCore s).freeCtr = s.freeCtr := rfl

/-! ### `writeEtc1`: the datapath registers it writes and keeps, and everything else -/

@[simp] theorem writeEtc1_blk (s : State) (mode : Mode) (base0 base1 : Pixel) (ts0 ts1 : BitVec 3) (flip : BitVec 1) (pix : Tile) : (writeEtc1 s mode base0 base1 ts0 ts1 flip pix).dp.blk = s.dp.blk := rfl
@[simp] theorem writeEtc1_mode (s : State) (mode : Mode) (base0 base1 : Pixel) (ts0 ts1 : BitVec 3) (flip : BitVec 1) (pix : Tile) : (writeEtc1 s mode base0 base1 ts0 ts1 flip pix).dp.mode = mode := rfl
@[simp] theorem writeEtc1_base0 (s : State) (mode : Mode) (base0 base1 : Pixel) (ts0 ts1 : BitVec 3) (flip : BitVec 1) (pix : Tile) : (writeEtc1 s mode base0 base1 ts0 ts1 flip pix).dp.base0 = base0 := rfl
@[simp] theorem writeEtc1_base1 (s : State) (mode : Mode) (base0 base1 : Pixel) (ts0 ts1 : BitVec 3) (flip : BitVec 1) (pix : Tile) : (writeEtc1 s mode base0 base1 ts0 ts1 flip pix).dp.base1 = base1 := rfl
@[simp] theorem writeEtc1_co (s : State) (mode : Mode) (base0 base1 : Pixel) (ts0 ts1 : BitVec 3) (flip : BitVec 1) (pix : Tile) : (writeEtc1 s mode base0 base1 ts0 ts1 flip pix).dp.co = s.dp.co := rfl
@[simp] theorem writeEtc1_ch (s : State) (mode : Mode) (base0 base1 : Pixel) (ts0 ts1 : BitVec 3) (flip : BitVec 1) (pix : Tile) : (writeEtc1 s mode base0 base1 ts0 ts1 flip pix).dp.ch = s.dp.ch := rfl
@[simp] theorem writeEtc1_cv (s : State) (mode : Mode) (base0 base1 : Pixel) (ts0 ts1 : BitVec 3) (flip : BitVec 1) (pix : Tile) : (writeEtc1 s mode base0 base1 ts0 ts1 flip pix).dp.cv = s.dp.cv := rfl
@[simp] theorem writeEtc1_ts0 (s : State) (mode : Mode) (base0 base1 : Pixel) (ts0 ts1 : BitVec 3) (flip : BitVec 1) (pix : Tile) : (writeEtc1 s mode base0 base1 ts0 ts1 flip pix).dp.ts0 = ts0 := rfl
@[simp] theorem writeEtc1_ts1 (s : State) (mode : Mode) (base0 base1 : Pixel) (ts0 ts1 : BitVec 3) (flip : BitVec 1) (pix : Tile) : (writeEtc1 s mode base0 base1 ts0 ts1 flip pix).dp.ts1 = ts1 := rfl
@[simp] theorem writeEtc1_flip (s : State) (mode : Mode) (base0 base1 : Pixel) (ts0 ts1 : BitVec 3) (flip : BitVec 1) (pix : Tile) : (writeEtc1 s mode base0 base1 ts0 ts1 flip pix).dp.flip = flip := rfl
@[simp] theorem writeEtc1_dsel (s : State) (mode : Mode) (base0 base1 : Pixel) (ts0 ts1 : BitVec 3) (flip : BitVec 1) (pix : Tile) : (writeEtc1 s mode base0 base1 ts0 ts1 flip pix).dp.dsel = s.dp.dsel := rfl
@[simp] theorem writeEtc1_paint (s : State) (mode : Mode) (base0 base1 : Pixel) (ts0 ts1 : BitVec 3) (flip : BitVec 1) (pix : Tile) : (writeEtc1 s mode base0 base1 ts0 ts1 flip pix).dp.paint = s.dp.paint := rfl
@[simp] theorem writeEtc1_pix (s : State) (mode : Mode) (base0 base1 : Pixel) (ts0 ts1 : BitVec 3) (flip : BitVec 1) (pix : Tile) : (writeEtc1 s mode base0 base1 ts0 ts1 flip pix).dp.pix = pix := rfl
@[simp] theorem writeEtc1_state_reqWidth (s : State) (mode : Mode) (base0 base1 : Pixel) (ts0 ts1 : BitVec 3) (flip : BitVec 1) (pix : Tile) : (writeEtc1 s mode base0 base1 ts0 ts1 flip pix).reqWidth = s.reqWidth := rfl
@[simp] theorem writeEtc1_state_reqHeight (s : State) (mode : Mode) (base0 base1 : Pixel) (ts0 ts1 : BitVec 3) (flip : BitVec 1) (pix : Tile) : (writeEtc1 s mode base0 base1 ts0 ts1 flip pix).reqHeight = s.reqHeight := rfl
@[simp] theorem writeEtc1_state_streamLen (s : State) (mode : Mode) (base0 base1 : Pixel) (ts0 ts1 : BitVec 3) (flip : BitVec 1) (pix : Tile) : (writeEtc1 s mode base0 base1 ts0 ts1 flip pix).streamLen = s.streamLen := rfl
@[simp] theorem writeEtc1_state_status (s : State) (mode : Mode) (base0 base1 : Pixel) (ts0 ts1 : BitVec 3) (flip : BitVec 1) (pix : Tile) : (writeEtc1 s mode base0 base1 ts0 ts1 flip pix).status = s.status := rfl
@[simp] theorem writeEtc1_state_errKind (s : State) (mode : Mode) (base0 base1 : Pixel) (ts0 ts1 : BitVec 3) (flip : BitVec 1) (pix : Tile) : (writeEtc1 s mode base0 base1 ts0 ts1 flip pix).errKind = s.errKind := rfl
@[simp] theorem writeEtc1_state_errRequired (s : State) (mode : Mode) (base0 base1 : Pixel) (ts0 ts1 : BitVec 3) (flip : BitVec 1) (pix : Tile) : (writeEtc1 s mode base0 base1 ts0 ts1 flip pix).errRequired = s.errRequired := rfl
@[simp] theorem writeEtc1_state_errAvailable (s : State) (mode : Mode) (base0 base1 : Pixel) (ts0 ts1 : BitVec 3) (flip : BitVec 1) (pix : Tile) : (writeEtc1 s mode base0 base1 ts0 ts1 flip pix).errAvailable = s.errAvailable := rfl
@[simp] theorem writeEtc1_state_resWidth (s : State) (mode : Mode) (base0 base1 : Pixel) (ts0 ts1 : BitVec 3) (flip : BitVec 1) (pix : Tile) : (writeEtc1 s mode base0 base1 ts0 ts1 flip pix).resWidth = s.resWidth := rfl
@[simp] theorem writeEtc1_state_resHeight (s : State) (mode : Mode) (base0 base1 : Pixel) (ts0 ts1 : BitVec 3) (flip : BitVec 1) (pix : Tile) : (writeEtc1 s mode base0 base1 ts0 ts1 flip pix).resHeight = s.resHeight := rfl
@[simp] theorem writeEtc1_state_pos (s : State) (mode : Mode) (base0 base1 : Pixel) (ts0 ts1 : BitVec 3) (flip : BitVec 1) (pix : Tile) : (writeEtc1 s mode base0 base1 ts0 ts1 flip pix).pos = s.pos := rfl
@[simp] theorem writeEtc1_state_w (s : State) (mode : Mode) (base0 base1 : Pixel) (ts0 ts1 : BitVec 3) (flip : BitVec 1) (pix : Tile) : (writeEtc1 s mode base0 base1 ts0 ts1 flip pix).w = s.w := rfl
@[simp] theorem writeEtc1_state_h (s : State) (mode : Mode) (base0 base1 : Pixel) (ts0 ts1 : BitVec 3) (flip : BitVec 1) (pix : Tile) : (writeEtc1 s mode base0 base1 ts0 ts1 flip pix).h = s.h := rfl
@[simp] theorem writeEtc1_state_xb (s : State) (mode : Mode) (base0 base1 : Pixel) (ts0 ts1 : BitVec 3) (flip : BitVec 1) (pix : Tile) : (writeEtc1 s mode base0 base1 ts0 ts1 flip pix).xb = s.xb := rfl
@[simp] theorem writeEtc1_state_yb (s : State) (mode : Mode) (base0 base1 : Pixel) (ts0 ts1 : BitVec 3) (flip : BitVec 1) (pix : Tile) : (writeEtc1 s mode base0 base1 ts0 ts1 flip pix).yb = s.yb := rfl
@[simp] theorem writeEtc1_state_bandY (s : State) (mode : Mode) (base0 base1 : Pixel) (ts0 ts1 : BitVec 3) (flip : BitVec 1) (pix : Tile) : (writeEtc1 s mode base0 base1 ts0 ts1 flip pix).bandY = s.bandY := rfl
@[simp] theorem writeEtc1_state_blockX (s : State) (mode : Mode) (base0 base1 : Pixel) (ts0 ts1 : BitVec 3) (flip : BitVec 1) (pix : Tile) : (writeEtc1 s mode base0 base1 ts0 ts1 flip pix).blockX = s.blockX := rfl
@[simp] theorem writeEtc1_state_rowJ (s : State) (mode : Mode) (base0 base1 : Pixel) (ts0 ts1 : BitVec 3) (flip : BitVec 1) (pix : Tile) : (writeEtc1 s mode base0 base1 ts0 ts1 flip pix).rowJ = s.rowJ := rfl
@[simp] theorem writeEtc1_state_colK (s : State) (mode : Mode) (base0 base1 : Pixel) (ts0 ts1 : BitVec 3) (flip : BitVec 1) (pix : Tile) : (writeEtc1 s mode base0 base1 ts0 ts1 flip pix).colK = s.colK := rfl
@[simp] theorem writeEtc1_state_outp (s : State) (mode : Mode) (base0 base1 : Pixel) (ts0 ts1 : BitVec 3) (flip : BitVec 1) (pix : Tile) : (writeEtc1 s mode base0 base1 ts0 ts1 flip pix).outp = s.outp := rfl
@[simp] theorem writeEtc1_state_phase (s : State) (mode : Mode) (base0 base1 : Pixel) (ts0 ts1 : BitVec 3) (flip : BitVec 1) (pix : Tile) : (writeEtc1 s mode base0 base1 ts0 ts1 flip pix).phase = s.phase := rfl
@[simp] theorem writeEtc1_state_band (s : State) (mode : Mode) (base0 base1 : Pixel) (ts0 ts1 : BitVec 3) (flip : BitVec 1) (pix : Tile) : (writeEtc1 s mode base0 base1 ts0 ts1 flip pix).band = s.band := rfl
@[simp] theorem writeEtc1_state_out (s : State) (mode : Mode) (base0 base1 : Pixel) (ts0 ts1 : BitVec 3) (flip : BitVec 1) (pix : Tile) : (writeEtc1 s mode base0 base1 ts0 ts1 flip pix).out = s.out := rfl
@[simp] theorem writeEtc1_state_stream (s : State) (mode : Mode) (base0 base1 : Pixel) (ts0 ts1 : BitVec 3) (flip : BitVec 1) (pix : Tile) : (writeEtc1 s mode base0 base1 ts0 ts1 flip pix).stream = s.stream := rfl
@[simp] theorem writeEtc1_state_par (s : State) (mode : Mode) (base0 base1 : Pixel) (ts0 ts1 : BitVec 3) (flip : BitVec 1) (pix : Tile) : (writeEtc1 s mode base0 base1 ts0 ts1 flip pix).par = s.par := rfl
@[simp] theorem writeEtc1_state_host (s : State) (mode : Mode) (base0 base1 : Pixel) (ts0 ts1 : BitVec 3) (flip : BitVec 1) (pix : Tile) : (writeEtc1 s mode base0 base1 ts0 ts1 flip pix).host = s.host := rfl
@[simp] theorem writeEtc1_state_rdata (s : State) (mode : Mode) (base0 base1 : Pixel) (ts0 ts1 : BitVec 3) (flip : BitVec 1) (pix : Tile) : (writeEtc1 s mode base0 base1 ts0 ts1 flip pix).rdata = s.rdata := rfl
@[simp] theorem writeEtc1_state_freeCtr (s : State) (mode : Mode) (base0 base1 : Pixel) (ts0 ts1 : BitVec 3) (flip : BitVec 1) (pix : Tile) : (writeEtc1 s mode base0 base1 ts0 ts1 flip pix).freeCtr = s.freeCtr := rfl

/-! ### `writePaint`: the datapath registers it writes and keeps, and everything else -/

@[simp] theorem writePaint_blk (s : State) (mode : Mode) (base0 base1 : Pixel) (dsel : BitVec 3) (paint : Paints) (pix : Tile) : (writePaint s mode base0 base1 dsel paint pix).dp.blk = s.dp.blk := rfl
@[simp] theorem writePaint_mode (s : State) (mode : Mode) (base0 base1 : Pixel) (dsel : BitVec 3) (paint : Paints) (pix : Tile) : (writePaint s mode base0 base1 dsel paint pix).dp.mode = mode := rfl
@[simp] theorem writePaint_base0 (s : State) (mode : Mode) (base0 base1 : Pixel) (dsel : BitVec 3) (paint : Paints) (pix : Tile) : (writePaint s mode base0 base1 dsel paint pix).dp.base0 = base0 := rfl
@[simp] theorem writePaint_base1 (s : State) (mode : Mode) (base0 base1 : Pixel) (dsel : BitVec 3) (paint : Paints) (pix : Tile) : (writePaint s mode base0 base1 dsel paint pix).dp.base1 = base1 := rfl
@[simp] theorem writePaint_co (s : State) (mode : Mode) (base0 base1 : Pixel) (dsel : BitVec 3) (paint : Paints) (pix : Tile) : (writePaint s mode base0 base1 dsel paint pix).dp.co = s.dp.co := rfl
@[simp] theorem writePaint_ch (s : State) (mode : Mode) (base0 base1 : Pixel) (dsel : BitVec 3) (paint : Paints) (pix : Tile) : (writePaint s mode base0 base1 dsel paint pix).dp.ch = s.dp.ch := rfl
@[simp] theorem writePaint_cv (s : State) (mode : Mode) (base0 base1 : Pixel) (dsel : BitVec 3) (paint : Paints) (pix : Tile) : (writePaint s mode base0 base1 dsel paint pix).dp.cv = s.dp.cv := rfl
@[simp] theorem writePaint_ts0 (s : State) (mode : Mode) (base0 base1 : Pixel) (dsel : BitVec 3) (paint : Paints) (pix : Tile) : (writePaint s mode base0 base1 dsel paint pix).dp.ts0 = s.dp.ts0 := rfl
@[simp] theorem writePaint_ts1 (s : State) (mode : Mode) (base0 base1 : Pixel) (dsel : BitVec 3) (paint : Paints) (pix : Tile) : (writePaint s mode base0 base1 dsel paint pix).dp.ts1 = s.dp.ts1 := rfl
@[simp] theorem writePaint_flip (s : State) (mode : Mode) (base0 base1 : Pixel) (dsel : BitVec 3) (paint : Paints) (pix : Tile) : (writePaint s mode base0 base1 dsel paint pix).dp.flip = s.dp.flip := rfl
@[simp] theorem writePaint_dsel (s : State) (mode : Mode) (base0 base1 : Pixel) (dsel : BitVec 3) (paint : Paints) (pix : Tile) : (writePaint s mode base0 base1 dsel paint pix).dp.dsel = dsel := rfl
@[simp] theorem writePaint_paint (s : State) (mode : Mode) (base0 base1 : Pixel) (dsel : BitVec 3) (paint : Paints) (pix : Tile) : (writePaint s mode base0 base1 dsel paint pix).dp.paint = paint := rfl
@[simp] theorem writePaint_pix (s : State) (mode : Mode) (base0 base1 : Pixel) (dsel : BitVec 3) (paint : Paints) (pix : Tile) : (writePaint s mode base0 base1 dsel paint pix).dp.pix = pix := rfl
@[simp] theorem writePaint_state_reqWidth (s : State) (mode : Mode) (base0 base1 : Pixel) (dsel : BitVec 3) (paint : Paints) (pix : Tile) : (writePaint s mode base0 base1 dsel paint pix).reqWidth = s.reqWidth := rfl
@[simp] theorem writePaint_state_reqHeight (s : State) (mode : Mode) (base0 base1 : Pixel) (dsel : BitVec 3) (paint : Paints) (pix : Tile) : (writePaint s mode base0 base1 dsel paint pix).reqHeight = s.reqHeight := rfl
@[simp] theorem writePaint_state_streamLen (s : State) (mode : Mode) (base0 base1 : Pixel) (dsel : BitVec 3) (paint : Paints) (pix : Tile) : (writePaint s mode base0 base1 dsel paint pix).streamLen = s.streamLen := rfl
@[simp] theorem writePaint_state_status (s : State) (mode : Mode) (base0 base1 : Pixel) (dsel : BitVec 3) (paint : Paints) (pix : Tile) : (writePaint s mode base0 base1 dsel paint pix).status = s.status := rfl
@[simp] theorem writePaint_state_errKind (s : State) (mode : Mode) (base0 base1 : Pixel) (dsel : BitVec 3) (paint : Paints) (pix : Tile) : (writePaint s mode base0 base1 dsel paint pix).errKind = s.errKind := rfl
@[simp] theorem writePaint_state_errRequired (s : State) (mode : Mode) (base0 base1 : Pixel) (dsel : BitVec 3) (paint : Paints) (pix : Tile) : (writePaint s mode base0 base1 dsel paint pix).errRequired = s.errRequired := rfl
@[simp] theorem writePaint_state_errAvailable (s : State) (mode : Mode) (base0 base1 : Pixel) (dsel : BitVec 3) (paint : Paints) (pix : Tile) : (writePaint s mode base0 base1 dsel paint pix).errAvailable = s.errAvailable := rfl
@[simp] theorem writePaint_state_resWidth (s : State) (mode : Mode) (base0 base1 : Pixel) (dsel : BitVec 3) (paint : Paints) (pix : Tile) : (writePaint s mode base0 base1 dsel paint pix).resWidth = s.resWidth := rfl
@[simp] theorem writePaint_state_resHeight (s : State) (mode : Mode) (base0 base1 : Pixel) (dsel : BitVec 3) (paint : Paints) (pix : Tile) : (writePaint s mode base0 base1 dsel paint pix).resHeight = s.resHeight := rfl
@[simp] theorem writePaint_state_pos (s : State) (mode : Mode) (base0 base1 : Pixel) (dsel : BitVec 3) (paint : Paints) (pix : Tile) : (writePaint s mode base0 base1 dsel paint pix).pos = s.pos := rfl
@[simp] theorem writePaint_state_w (s : State) (mode : Mode) (base0 base1 : Pixel) (dsel : BitVec 3) (paint : Paints) (pix : Tile) : (writePaint s mode base0 base1 dsel paint pix).w = s.w := rfl
@[simp] theorem writePaint_state_h (s : State) (mode : Mode) (base0 base1 : Pixel) (dsel : BitVec 3) (paint : Paints) (pix : Tile) : (writePaint s mode base0 base1 dsel paint pix).h = s.h := rfl
@[simp] theorem writePaint_state_xb (s : State) (mode : Mode) (base0 base1 : Pixel) (dsel : BitVec 3) (paint : Paints) (pix : Tile) : (writePaint s mode base0 base1 dsel paint pix).xb = s.xb := rfl
@[simp] theorem writePaint_state_yb (s : State) (mode : Mode) (base0 base1 : Pixel) (dsel : BitVec 3) (paint : Paints) (pix : Tile) : (writePaint s mode base0 base1 dsel paint pix).yb = s.yb := rfl
@[simp] theorem writePaint_state_bandY (s : State) (mode : Mode) (base0 base1 : Pixel) (dsel : BitVec 3) (paint : Paints) (pix : Tile) : (writePaint s mode base0 base1 dsel paint pix).bandY = s.bandY := rfl
@[simp] theorem writePaint_state_blockX (s : State) (mode : Mode) (base0 base1 : Pixel) (dsel : BitVec 3) (paint : Paints) (pix : Tile) : (writePaint s mode base0 base1 dsel paint pix).blockX = s.blockX := rfl
@[simp] theorem writePaint_state_rowJ (s : State) (mode : Mode) (base0 base1 : Pixel) (dsel : BitVec 3) (paint : Paints) (pix : Tile) : (writePaint s mode base0 base1 dsel paint pix).rowJ = s.rowJ := rfl
@[simp] theorem writePaint_state_colK (s : State) (mode : Mode) (base0 base1 : Pixel) (dsel : BitVec 3) (paint : Paints) (pix : Tile) : (writePaint s mode base0 base1 dsel paint pix).colK = s.colK := rfl
@[simp] theorem writePaint_state_outp (s : State) (mode : Mode) (base0 base1 : Pixel) (dsel : BitVec 3) (paint : Paints) (pix : Tile) : (writePaint s mode base0 base1 dsel paint pix).outp = s.outp := rfl
@[simp] theorem writePaint_state_phase (s : State) (mode : Mode) (base0 base1 : Pixel) (dsel : BitVec 3) (paint : Paints) (pix : Tile) : (writePaint s mode base0 base1 dsel paint pix).phase = s.phase := rfl
@[simp] theorem writePaint_state_band (s : State) (mode : Mode) (base0 base1 : Pixel) (dsel : BitVec 3) (paint : Paints) (pix : Tile) : (writePaint s mode base0 base1 dsel paint pix).band = s.band := rfl
@[simp] theorem writePaint_state_out (s : State) (mode : Mode) (base0 base1 : Pixel) (dsel : BitVec 3) (paint : Paints) (pix : Tile) : (writePaint s mode base0 base1 dsel paint pix).out = s.out := rfl
@[simp] theorem writePaint_state_stream (s : State) (mode : Mode) (base0 base1 : Pixel) (dsel : BitVec 3) (paint : Paints) (pix : Tile) : (writePaint s mode base0 base1 dsel paint pix).stream = s.stream := rfl
@[simp] theorem writePaint_state_par (s : State) (mode : Mode) (base0 base1 : Pixel) (dsel : BitVec 3) (paint : Paints) (pix : Tile) : (writePaint s mode base0 base1 dsel paint pix).par = s.par := rfl
@[simp] theorem writePaint_state_host (s : State) (mode : Mode) (base0 base1 : Pixel) (dsel : BitVec 3) (paint : Paints) (pix : Tile) : (writePaint s mode base0 base1 dsel paint pix).host = s.host := rfl
@[simp] theorem writePaint_state_rdata (s : State) (mode : Mode) (base0 base1 : Pixel) (dsel : BitVec 3) (paint : Paints) (pix : Tile) : (writePaint s mode base0 base1 dsel paint pix).rdata = s.rdata := rfl
@[simp] theorem writePaint_state_freeCtr (s : State) (mode : Mode) (base0 base1 : Pixel) (dsel : BitVec 3) (paint : Paints) (pix : Tile) : (writePaint s mode base0 base1 dsel paint pix).freeCtr = s.freeCtr := rfl

/-! ### `writePlanar`: the datapath registers it writes and keeps, and everything else -/

@[simp] theorem writePlanar_blk (s : State) (co ch cv : Pixel) (pix : Tile) : (writePlanar s co ch cv pix).dp.blk = s.dp.blk := rfl
@[simp] theorem writePlanar_mode (s : State) (co ch cv : Pixel) (pix : Tile) : (writePlanar s co ch cv pix).dp.mode = .planar := rfl
@[simp] theorem writePlanar_base0 (s : State) (co ch cv : Pixel) (pix : Tile) : (writePlanar s co ch cv pix).dp.base0 = s.dp.base0 := rfl
@[simp] theorem writePlanar_base1 (s : State) (co ch cv : Pixel) (pix : Tile) : (writePlanar s co ch cv pix).dp.base1 = s.dp.base1 := rfl
@[simp] theorem writePlanar_co (s : State) (co ch cv : Pixel) (pix : Tile) : (writePlanar s co ch cv pix).dp.co = co := rfl
@[simp] theorem writePlanar_ch (s : State) (co ch cv : Pixel) (pix : Tile) : (writePlanar s co ch cv pix).dp.ch = ch := rfl
@[simp] theorem writePlanar_cv (s : State) (co ch cv : Pixel) (pix : Tile) : (writePlanar s co ch cv pix).dp.cv = cv := rfl
@[simp] theorem writePlanar_ts0 (s : State) (co ch cv : Pixel) (pix : Tile) : (writePlanar s co ch cv pix).dp.ts0 = s.dp.ts0 := rfl
@[simp] theorem writePlanar_ts1 (s : State) (co ch cv : Pixel) (pix : Tile) : (writePlanar s co ch cv pix).dp.ts1 = s.dp.ts1 := rfl
@[simp] theorem writePlanar_flip (s : State) (co ch cv : Pixel) (pix : Tile) : (writePlanar s co ch cv pix).dp.flip = s.dp.flip := rfl
@[simp] theorem writePlanar_dsel (s : State) (co ch cv : Pixel) (pix : Tile) : (writePlanar s co ch cv pix).dp.dsel = s.dp.dsel := rfl
@[simp] theorem writePlanar_paint (s : State) (co ch cv : Pixel) (pix : Tile) : (writePlanar s co ch cv pix).dp.paint = s.dp.paint := rfl
@[simp] theorem writePlanar_pix (s : State) (co ch cv : Pixel) (pix : Tile) : (writePlanar s co ch cv pix).dp.pix = pix := rfl
@[simp] theorem writePlanar_state_reqWidth (s : State) (co ch cv : Pixel) (pix : Tile) : (writePlanar s co ch cv pix).reqWidth = s.reqWidth := rfl
@[simp] theorem writePlanar_state_reqHeight (s : State) (co ch cv : Pixel) (pix : Tile) : (writePlanar s co ch cv pix).reqHeight = s.reqHeight := rfl
@[simp] theorem writePlanar_state_streamLen (s : State) (co ch cv : Pixel) (pix : Tile) : (writePlanar s co ch cv pix).streamLen = s.streamLen := rfl
@[simp] theorem writePlanar_state_status (s : State) (co ch cv : Pixel) (pix : Tile) : (writePlanar s co ch cv pix).status = s.status := rfl
@[simp] theorem writePlanar_state_errKind (s : State) (co ch cv : Pixel) (pix : Tile) : (writePlanar s co ch cv pix).errKind = s.errKind := rfl
@[simp] theorem writePlanar_state_errRequired (s : State) (co ch cv : Pixel) (pix : Tile) : (writePlanar s co ch cv pix).errRequired = s.errRequired := rfl
@[simp] theorem writePlanar_state_errAvailable (s : State) (co ch cv : Pixel) (pix : Tile) : (writePlanar s co ch cv pix).errAvailable = s.errAvailable := rfl
@[simp] theorem writePlanar_state_resWidth (s : State) (co ch cv : Pixel) (pix : Tile) : (writePlanar s co ch cv pix).resWidth = s.resWidth := rfl
@[simp] theorem writePlanar_state_resHeight (s : State) (co ch cv : Pixel) (pix : Tile) : (writePlanar s co ch cv pix).resHeight = s.resHeight := rfl
@[simp] theorem writePlanar_state_pos (s : State) (co ch cv : Pixel) (pix : Tile) : (writePlanar s co ch cv pix).pos = s.pos := rfl
@[simp] theorem writePlanar_state_w (s : State) (co ch cv : Pixel) (pix : Tile) : (writePlanar s co ch cv pix).w = s.w := rfl
@[simp] theorem writePlanar_state_h (s : State) (co ch cv : Pixel) (pix : Tile) : (writePlanar s co ch cv pix).h = s.h := rfl
@[simp] theorem writePlanar_state_xb (s : State) (co ch cv : Pixel) (pix : Tile) : (writePlanar s co ch cv pix).xb = s.xb := rfl
@[simp] theorem writePlanar_state_yb (s : State) (co ch cv : Pixel) (pix : Tile) : (writePlanar s co ch cv pix).yb = s.yb := rfl
@[simp] theorem writePlanar_state_bandY (s : State) (co ch cv : Pixel) (pix : Tile) : (writePlanar s co ch cv pix).bandY = s.bandY := rfl
@[simp] theorem writePlanar_state_blockX (s : State) (co ch cv : Pixel) (pix : Tile) : (writePlanar s co ch cv pix).blockX = s.blockX := rfl
@[simp] theorem writePlanar_state_rowJ (s : State) (co ch cv : Pixel) (pix : Tile) : (writePlanar s co ch cv pix).rowJ = s.rowJ := rfl
@[simp] theorem writePlanar_state_colK (s : State) (co ch cv : Pixel) (pix : Tile) : (writePlanar s co ch cv pix).colK = s.colK := rfl
@[simp] theorem writePlanar_state_outp (s : State) (co ch cv : Pixel) (pix : Tile) : (writePlanar s co ch cv pix).outp = s.outp := rfl
@[simp] theorem writePlanar_state_phase (s : State) (co ch cv : Pixel) (pix : Tile) : (writePlanar s co ch cv pix).phase = s.phase := rfl
@[simp] theorem writePlanar_state_band (s : State) (co ch cv : Pixel) (pix : Tile) : (writePlanar s co ch cv pix).band = s.band := rfl
@[simp] theorem writePlanar_state_out (s : State) (co ch cv : Pixel) (pix : Tile) : (writePlanar s co ch cv pix).out = s.out := rfl
@[simp] theorem writePlanar_state_stream (s : State) (co ch cv : Pixel) (pix : Tile) : (writePlanar s co ch cv pix).stream = s.stream := rfl
@[simp] theorem writePlanar_state_par (s : State) (co ch cv : Pixel) (pix : Tile) : (writePlanar s co ch cv pix).par = s.par := rfl
@[simp] theorem writePlanar_state_host (s : State) (co ch cv : Pixel) (pix : Tile) : (writePlanar s co ch cv pix).host = s.host := rfl
@[simp] theorem writePlanar_state_rdata (s : State) (co ch cv : Pixel) (pix : Tile) : (writePlanar s co ch cv pix).rdata = s.rdata := rfl
@[simp] theorem writePlanar_state_freeCtr (s : State) (co ch cv : Pixel) (pix : Tile) : (writePlanar s co ch cv pix).freeCtr = s.freeCtr := rfl

/-! ### `afterBlock`: what it keeps -/

@[simp] theorem afterBlock_reqWidth (s : State) : (afterBlock s).reqWidth = s.reqWidth := by unfold afterBlock; split <;> rfl
@[simp] theorem afterBlock_reqHeight (s : State) : (afterBlock s).reqHeight = s.reqHeight := by unfold afterBlock; split <;> rfl
@[simp] theorem afterBlock_streamLen (s : State) : (afterBlock s).streamLen = s.streamLen := by unfold afterBlock; split <;> rfl
@[simp] theorem afterBlock_status (s : State) : (afterBlock s).status = s.status := by unfold afterBlock; split <;> rfl
@[simp] theorem afterBlock_errKind (s : State) : (afterBlock s).errKind = s.errKind := by unfold afterBlock; split <;> rfl
@[simp] theorem afterBlock_errRequired (s : State) : (afterBlock s).errRequired = s.errRequired := by unfold afterBlock; split <;> rfl
@[simp] theorem afterBlock_errAvailable (s : State) : (afterBlock s).errAvailable = s.errAvailable := by unfold afterBlock; split <;> rfl
@[simp] theorem afterBlock_resWidth (s : State) : (afterBlock s).resWidth = s.resWidth := by unfold afterBlock; split <;> rfl
@[simp] theorem afterBlock_resHeight (s : State) : (afterBlock s).resHeight = s.resHeight := by unfold afterBlock; split <;> rfl
@[simp] theorem afterBlock_pos (s : State) : (afterBlock s).pos = s.pos := by unfold afterBlock; split <;> rfl
@[simp] theorem afterBlock_w (s : State) : (afterBlock s).w = s.w := by unfold afterBlock; split <;> rfl
@[simp] theorem afterBlock_h (s : State) : (afterBlock s).h = s.h := by unfold afterBlock; split <;> rfl
@[simp] theorem afterBlock_xb (s : State) : (afterBlock s).xb = s.xb := by unfold afterBlock; split <;> rfl
@[simp] theorem afterBlock_yb (s : State) : (afterBlock s).yb = s.yb := by unfold afterBlock; split <;> rfl
@[simp] theorem afterBlock_bandY (s : State) : (afterBlock s).bandY = s.bandY := by unfold afterBlock; split <;> rfl
@[simp] theorem afterBlock_outp (s : State) : (afterBlock s).outp = s.outp := by unfold afterBlock; split <;> rfl
@[simp] theorem afterBlock_dp (s : State) : (afterBlock s).dp = s.dp := by unfold afterBlock; split <;> rfl
@[simp] theorem afterBlock_band (s : State) : (afterBlock s).band = s.band := by unfold afterBlock; split <;> rfl
@[simp] theorem afterBlock_out (s : State) : (afterBlock s).out = s.out := by unfold afterBlock; split <;> rfl
@[simp] theorem afterBlock_stream (s : State) : (afterBlock s).stream = s.stream := by unfold afterBlock; split <;> rfl
@[simp] theorem afterBlock_par (s : State) : (afterBlock s).par = s.par := by unfold afterBlock; split <;> rfl
@[simp] theorem afterBlock_host (s : State) : (afterBlock s).host = s.host := by unfold afterBlock; split <;> rfl
@[simp] theorem afterBlock_rdata (s : State) : (afterBlock s).rdata = s.rdata := by unfold afterBlock; split <;> rfl
@[simp] theorem afterBlock_freeCtr (s : State) : (afterBlock s).freeCtr = s.freeCtr := by unfold afterBlock; split <;> rfl

/-! ### `afterBand`: what it keeps -/

@[simp] theorem afterBand_reqWidth (s : State) : (afterBand s).reqWidth = s.reqWidth := by unfold afterBand; split <;> rfl
@[simp] theorem afterBand_reqHeight (s : State) : (afterBand s).reqHeight = s.reqHeight := by unfold afterBand; split <;> rfl
@[simp] theorem afterBand_streamLen (s : State) : (afterBand s).streamLen = s.streamLen := by unfold afterBand; split <;> rfl
@[simp] theorem afterBand_errKind (s : State) : (afterBand s).errKind = s.errKind := by unfold afterBand; split <;> rfl
@[simp] theorem afterBand_errRequired (s : State) : (afterBand s).errRequired = s.errRequired := by unfold afterBand; split <;> rfl
@[simp] theorem afterBand_errAvailable (s : State) : (afterBand s).errAvailable = s.errAvailable := by unfold afterBand; split <;> rfl
@[simp] theorem afterBand_resWidth (s : State) : (afterBand s).resWidth = s.resWidth := by unfold afterBand; split <;> rfl
@[simp] theorem afterBand_resHeight (s : State) : (afterBand s).resHeight = s.resHeight := by unfold afterBand; split <;> rfl
@[simp] theorem afterBand_pos (s : State) : (afterBand s).pos = s.pos := by unfold afterBand; split <;> rfl
@[simp] theorem afterBand_w (s : State) : (afterBand s).w = s.w := by unfold afterBand; split <;> rfl
@[simp] theorem afterBand_h (s : State) : (afterBand s).h = s.h := by unfold afterBand; split <;> rfl
@[simp] theorem afterBand_xb (s : State) : (afterBand s).xb = s.xb := by unfold afterBand; split <;> rfl
@[simp] theorem afterBand_yb (s : State) : (afterBand s).yb = s.yb := by unfold afterBand; split <;> rfl
@[simp] theorem afterBand_outp (s : State) : (afterBand s).outp = s.outp := by unfold afterBand; split <;> rfl
@[simp] theorem afterBand_dp (s : State) : (afterBand s).dp = s.dp := by unfold afterBand; split <;> rfl
@[simp] theorem afterBand_out (s : State) : (afterBand s).out = s.out := by unfold afterBand; split <;> rfl
@[simp] theorem afterBand_stream (s : State) : (afterBand s).stream = s.stream := by unfold afterBand; split <;> rfl
@[simp] theorem afterBand_par (s : State) : (afterBand s).par = s.par := by unfold afterBand; split <;> rfl
@[simp] theorem afterBand_host (s : State) : (afterBand s).host = s.host := by unfold afterBand; split <;> rfl
@[simp] theorem afterBand_rdata (s : State) : (afterBand s).rdata = s.rdata := by unfold afterBand; split <;> rfl
@[simp] theorem afterBand_freeCtr (s : State) : (afterBand s).freeCtr = s.freeCtr := by unfold afterBand; split <;> rfl

/-! ### `afterPixel`: what it keeps -/

@[simp] theorem afterPixel_reqWidth (s : State) : (afterPixel s).reqWidth = s.reqWidth := by unfold afterPixel; (repeat' split) <;> simp
@[simp] theorem afterPixel_reqHeight (s : State) : (afterPixel s).reqHeight = s.reqHeight := by unfold afterPixel; (repeat' split) <;> simp
@[simp] theorem afterPixel_streamLen (s : State) : (afterPixel s).streamLen = s.streamLen := by unfold afterPixel; (repeat' split) <;> simp
@[simp] theorem afterPixel_errKind (s : State) : (afterPixel s).errKind = s.errKind := by unfold afterPixel; (repeat' split) <;> simp
@[simp] theorem afterPixel_errRequired (s : State) : (afterPixel s).errRequired = s.errRequired := by unfold afterPixel; (repeat' split) <;> simp
@[simp] theorem afterPixel_errAvailable (s : State) : (afterPixel s).errAvailable = s.errAvailable := by unfold afterPixel; (repeat' split) <;> simp
@[simp] theorem afterPixel_resWidth (s : State) : (afterPixel s).resWidth = s.resWidth := by unfold afterPixel; (repeat' split) <;> simp
@[simp] theorem afterPixel_resHeight (s : State) : (afterPixel s).resHeight = s.resHeight := by unfold afterPixel; (repeat' split) <;> simp
@[simp] theorem afterPixel_pos (s : State) : (afterPixel s).pos = s.pos := by unfold afterPixel; (repeat' split) <;> simp
@[simp] theorem afterPixel_w (s : State) : (afterPixel s).w = s.w := by unfold afterPixel; (repeat' split) <;> simp
@[simp] theorem afterPixel_h (s : State) : (afterPixel s).h = s.h := by unfold afterPixel; (repeat' split) <;> simp
@[simp] theorem afterPixel_xb (s : State) : (afterPixel s).xb = s.xb := by unfold afterPixel; (repeat' split) <;> simp
@[simp] theorem afterPixel_yb (s : State) : (afterPixel s).yb = s.yb := by unfold afterPixel; (repeat' split) <;> simp
@[simp] theorem afterPixel_outp (s : State) : (afterPixel s).outp = s.outp := by unfold afterPixel; (repeat' split) <;> simp
@[simp] theorem afterPixel_dp (s : State) : (afterPixel s).dp = s.dp := by unfold afterPixel; (repeat' split) <;> simp
@[simp] theorem afterPixel_out (s : State) : (afterPixel s).out = s.out := by unfold afterPixel; (repeat' split) <;> simp
@[simp] theorem afterPixel_stream (s : State) : (afterPixel s).stream = s.stream := by unfold afterPixel; (repeat' split) <;> simp
@[simp] theorem afterPixel_par (s : State) : (afterPixel s).par = s.par := by unfold afterPixel; (repeat' split) <;> simp
@[simp] theorem afterPixel_host (s : State) : (afterPixel s).host = s.host := by unfold afterPixel; (repeat' split) <;> simp
@[simp] theorem afterPixel_rdata (s : State) : (afterPixel s).rdata = s.rdata := by unfold afterPixel; (repeat' split) <;> simp
@[simp] theorem afterPixel_freeCtr (s : State) : (afterPixel s).freeCtr = s.freeCtr := by unfold afterPixel; (repeat' split) <;> simp

/-! ### `storeBlock`: what it keeps -/

@[simp] theorem storeBlock_reqWidth (s : State) : (storeBlock s).reqWidth = s.reqWidth := by simp [storeBlock]
@[simp] theorem storeBlock_reqHeight (s : State) : (storeBlock s).reqHeight = s.reqHeight := by simp [storeBlock]
@[simp] theorem storeBlock_streamLen (s : State) : (storeBlock s).streamLen = s.streamLen := by simp [storeBlock]
@[simp] theorem storeBlock_status (s : State) : (storeBlock s).status = s.status := by simp [storeBlock]
@[simp] theorem storeBlock_errKind (s : State) : (storeBlock s).errKind = s.errKind := by simp [storeBlock]
@[simp] theorem storeBlock_errRequired (s : State) : (storeBlock s).errRequired = s.errRequired := by simp [storeBlock]
@[simp] theorem storeBlock_errAvailable (s : State) : (storeBlock s).errAvailable = s.errAvailable := by simp [storeBlock]
@[simp] theorem storeBlock_resWidth (s : State) : (storeBlock s).resWidth = s.resWidth := by simp [storeBlock]
@[simp] theorem storeBlock_resHeight (s : State) : (storeBlock s).resHeight = s.resHeight := by simp [storeBlock]
@[simp] theorem storeBlock_pos (s : State) : (storeBlock s).pos = s.pos := by simp [storeBlock]
@[simp] theorem storeBlock_w (s : State) : (storeBlock s).w = s.w := by simp [storeBlock]
@[simp] theorem storeBlock_h (s : State) : (storeBlock s).h = s.h := by simp [storeBlock]
@[simp] theorem storeBlock_xb (s : State) : (storeBlock s).xb = s.xb := by simp [storeBlock]
@[simp] theorem storeBlock_yb (s : State) : (storeBlock s).yb = s.yb := by simp [storeBlock]
@[simp] theorem storeBlock_bandY (s : State) : (storeBlock s).bandY = s.bandY := by simp [storeBlock]
@[simp] theorem storeBlock_outp (s : State) : (storeBlock s).outp = s.outp := by simp [storeBlock]
@[simp] theorem storeBlock_dp (s : State) : (storeBlock s).dp = s.dp := by simp [storeBlock]
@[simp] theorem storeBlock_out (s : State) : (storeBlock s).out = s.out := by simp [storeBlock]
@[simp] theorem storeBlock_stream (s : State) : (storeBlock s).stream = s.stream := by simp [storeBlock]
@[simp] theorem storeBlock_par (s : State) : (storeBlock s).par = s.par := by simp [storeBlock]
@[simp] theorem storeBlock_host (s : State) : (storeBlock s).host = s.host := by simp [storeBlock]
@[simp] theorem storeBlock_rdata (s : State) : (storeBlock s).rdata = s.rdata := by simp [storeBlock]
@[simp] theorem storeBlock_freeCtr (s : State) : (storeBlock s).freeCtr = s.freeCtr := by simp [storeBlock]

/-! ### `beginTraversal`: what it keeps -/

@[simp] theorem beginTraversal_reqWidth (s : State) : (beginTraversal s).reqWidth = s.reqWidth := by unfold beginTraversal; split <;> rfl
@[simp] theorem beginTraversal_reqHeight (s : State) : (beginTraversal s).reqHeight = s.reqHeight := by unfold beginTraversal; split <;> rfl
@[simp] theorem beginTraversal_streamLen (s : State) : (beginTraversal s).streamLen = s.streamLen := by unfold beginTraversal; split <;> rfl
@[simp] theorem beginTraversal_errKind (s : State) : (beginTraversal s).errKind = s.errKind := by unfold beginTraversal; split <;> rfl
@[simp] theorem beginTraversal_errRequired (s : State) : (beginTraversal s).errRequired = s.errRequired := by unfold beginTraversal; split <;> rfl
@[simp] theorem beginTraversal_errAvailable (s : State) : (beginTraversal s).errAvailable = s.errAvailable := by unfold beginTraversal; split <;> rfl
@[simp] theorem beginTraversal_resWidth (s : State) : (beginTraversal s).resWidth = s.resWidth := by unfold beginTraversal; split <;> rfl
@[simp] theorem beginTraversal_resHeight (s : State) : (beginTraversal s).resHeight = s.resHeight := by unfold beginTraversal; split <;> rfl
@[simp] theorem beginTraversal_pos (s : State) : (beginTraversal s).pos = s.pos := by unfold beginTraversal; split <;> rfl
@[simp] theorem beginTraversal_w (s : State) : (beginTraversal s).w = s.w := by unfold beginTraversal; split <;> rfl
@[simp] theorem beginTraversal_h (s : State) : (beginTraversal s).h = s.h := by unfold beginTraversal; split <;> rfl
@[simp] theorem beginTraversal_xb (s : State) : (beginTraversal s).xb = s.xb := by unfold beginTraversal; split <;> rfl
@[simp] theorem beginTraversal_yb (s : State) : (beginTraversal s).yb = s.yb := by unfold beginTraversal; split <;> rfl
@[simp] theorem beginTraversal_bandY (s : State) : (beginTraversal s).bandY = s.bandY := by unfold beginTraversal; split <;> rfl
@[simp] theorem beginTraversal_blockX (s : State) : (beginTraversal s).blockX = s.blockX := by unfold beginTraversal; split <;> rfl
@[simp] theorem beginTraversal_rowJ (s : State) : (beginTraversal s).rowJ = s.rowJ := by unfold beginTraversal; split <;> rfl
@[simp] theorem beginTraversal_colK (s : State) : (beginTraversal s).colK = s.colK := by unfold beginTraversal; split <;> rfl
@[simp] theorem beginTraversal_outp (s : State) : (beginTraversal s).outp = s.outp := by unfold beginTraversal; split <;> rfl
@[simp] theorem beginTraversal_phase (s : State) : (beginTraversal s).phase = s.phase := by unfold beginTraversal; split <;> rfl
@[simp] theorem beginTraversal_dp (s : State) : (beginTraversal s).dp = s.dp := by unfold beginTraversal; split <;> rfl
@[simp] theorem beginTraversal_band (s : State) : (beginTraversal s).band = s.band := by unfold beginTraversal; split <;> rfl
@[simp] theorem beginTraversal_out (s : State) : (beginTraversal s).out = s.out := by unfold beginTraversal; split <;> rfl
@[simp] theorem beginTraversal_stream (s : State) : (beginTraversal s).stream = s.stream := by unfold beginTraversal; split <;> rfl
@[simp] theorem beginTraversal_par (s : State) : (beginTraversal s).par = s.par := by unfold beginTraversal; split <;> rfl
@[simp] theorem beginTraversal_host (s : State) : (beginTraversal s).host = s.host := by unfold beginTraversal; split <;> rfl
@[simp] theorem beginTraversal_rdata (s : State) : (beginTraversal s).rdata = s.rdata := by unfold beginTraversal; split <;> rfl
@[simp] theorem beginTraversal_freeCtr (s : State) : (beginTraversal s).freeCtr = s.freeCtr := by unfold beginTraversal; split <;> rfl

end Sys2Proof.Machine
end

