-- ==== Sys2Proof/Laws/Step.lean ====
section
/-!
SUPPORT. What a step can be, said once: the equation of `step` for each kind of turn, and the two outcomes of a block read and
of a pixel visit. Later proofs cite these and do not unfold `step`.
-/

namespace Sys2Proof.Machine

theorem step_of_settled {s : State} {o : Host.Outcome State Fault Refusal} (h : issue s = .settled o) : step s = o := by
  rw [step, h]

theorem step_of_run {s s' t : State} {i : Instr} (h : issue s = .run i s') (he : exec i s' = .next t) :
    step s = .next (retire i t) := by
  rw [step, h]
  simp only [he]

/-- No instruction faults or is refused. -/
theorem exec_completes (i : Instr) (s : State) : ∃ t, exec i s = .next t := by
  cases i <;> exact ⟨_, rfl⟩

theorem issue_nil {s : State} (h : s.host = []) : issue s = coreTurn s := by
  rw [issue, h]

/-- On the core's turn, however the host leaves it the turn, the core moves with the host's remaining moves in place. -/
theorem issue_of_coreTurn {s : State} {rest : List HostOp} (h : s.CoreTurn rest) :
    issue s = coreTurn { s with host := rest } := by
  rcases h with ⟨h, rfl⟩ | h | ⟨hb, rfl, l, h⟩
  · rw [issue, h]
    cases s
    simp_all
  · rw [issue, h]
  · rw [issue, h]
    simp only [hb, if_true]
    cases s
    simp_all

theorem coreTurn_quiet {s : State} (h : s.status ≠ .busy) : coreTurn s = .settled (.next s) := by
  unfold coreTurn
  split <;> simp_all

theorem coreTurn_read {s : State} (h : s.status = .busy) (hp : s.phase = .read) : coreTurn s = fetchBlock s := by
  simp [coreTurn, h, hp]

theorem coreTurn_emit {s : State} (h : s.status = .busy) (hp : s.phase = .emit) :
    coreTurn s = .settled (.next (visitPixel s)) := by
  simp [coreTurn, h, hp]

/-- A block read is an instruction to run, or a short read (R140, R142). -/
theorem fetchBlock_cases (s : State) :
    (∃ w, blockOfBytes (memRead s.stream s.pos 8) = some w ∧
      fetchBlock s = .run (decodeBlock s.par.layout w) { s with pos := s.pos + 8, dp := { s.dp with blk := w } }) ∨
    (blockOfBytes (memRead s.stream s.pos 8) = none ∧
      fetchBlock s = .settled (.next (raise s .shortRead (s.pos + 8) (s.pos + (memRead s.stream s.pos 8).length)))) := by
  cases h : blockOfBytes (memRead s.stream s.pos 8) with
  | some w => exact .inl ⟨w, rfl, by simp [fetchBlock, h]⟩
  | none => exact .inr ⟨rfl, by simp [fetchBlock, h]⟩

/-- Every turn of the core completes: there is no stuck state (R149). -/
theorem coreTurn_completes (s : State) :
    (∃ t, coreTurn s = .settled (.next t)) ∨ ∃ i s', coreTurn s = .run i s' := by
  unfold coreTurn
  split
  · exact .inl ⟨_, rfl⟩
  · exact .inl ⟨_, rfl⟩
  · exact .inl ⟨_, rfl⟩
  · split
    · rcases fetchBlock_cases s with ⟨w, -, h⟩ | ⟨-, h⟩
      · exact .inr ⟨_, _, h⟩
      · exact .inl ⟨_, h⟩
    · exact .inl ⟨_, rfl⟩

/-- A pixel visit is the emission of some pixel from a state that differs at most in the free-value counter. -/
theorem visitPixel_cases (s : State) :
    (∃ p, bandPixel s.band s.blockX (s.colK * 4 + s.rowJ) = some p ∧ visitPixel s = emitPixel s p) ∨
    (bandPixel s.band s.blockX (s.colK * 4 + s.rowJ) = none ∧
      visitPixel s = emitPixel { s with freeCtr := s.freeCtr + 1 } (Config.freePixel s.freeCtr)) := by
  cases h : bandPixel s.band s.blockX (s.colK * 4 + s.rowJ) with
  | some p => exact .inl ⟨p, rfl, by simp [visitPixel, h]⟩
  | none => exact .inr ⟨rfl, by simp [visitPixel, h]⟩

/-- The four ways the counters move after a pixel visit (R143, R146, R147). -/
theorem afterPixel_cases (s : State) :
    (s.colK + 1 < 4 ∧ afterPixel s = { s with colK := s.colK + 1 }) ∨
    (¬s.colK + 1 < 4 ∧ s.blockX + 1 < s.xb ∧ afterPixel s = { s with colK := 0, blockX := s.blockX + 1 }) ∨
    (¬s.colK + 1 < 4 ∧ ¬s.blockX + 1 < s.xb ∧ s.rowJ + 1 < 4 ∧
      afterPixel s = { s with colK := 0, blockX := 0, rowJ := s.rowJ + 1 }) ∨
    (¬s.colK + 1 < 4 ∧ ¬s.blockX + 1 < s.xb ∧ ¬s.rowJ + 1 < 4 ∧ afterPixel s = afterBand s) := by
  unfold afterPixel
  by_cases h1 : s.colK + 1 < 4
  · exact .inl ⟨h1, by simp [h1]⟩
  · by_cases h2 : s.blockX + 1 < s.xb
    · exact .inr (.inl ⟨h1, h2, by simp [h1, h2]⟩)
    · by_cases h3 : s.rowJ + 1 < 4
      · exact .inr (.inr (.inl ⟨h1, h2, h3, by simp [h1, h2, h3]⟩))
      · exact .inr (.inr (.inr ⟨h1, h2, h3, by simp [h1, h2, h3]⟩))

/-- Everything `START` can do once it is accepted: one of the three `InvalidResolution`, `AllocationFailure`, or the
traversal (R130, R136). -/
theorem resolveAndCheck_cases (s : State) :
    (resolveHeight s.reqHeight.toNat (resolveWidth s.reqWidth.toNat s.streamLen.toNat) s.streamLen.toNat = none ∧
      resolveAndCheck s = raise s .invalidResolution 0 s.streamLen.toNat) ∨
    ∃ w h, w = resolveWidth s.reqWidth.toNat s.streamLen.toNat ∧
      resolveHeight s.reqHeight.toNat w s.streamLen.toNat = some h ∧
      ((2 ^ 32 ≤ w ∨ 2 ^ 32 ≤ h) ∧ resolveAndCheck s = raise s .invalidResolution 0 s.streamLen.toNat ∨
       (w < 2 ^ 32 ∧ h < 2 ^ 32) ∧
        (s.streamLen.toNat < requiredBytes w h ∧
          resolveAndCheck s = raise (publish s w h) .invalidResolution (requiredBytes w h) s.streamLen.toNat ∨
         requiredBytes w h ≤ s.streamLen.toNat ∧
          ((exceeds s.par.bandCapacity (ceil4 w) = true ∨ exceeds s.par.outCapacity (w * h * 3) = true) ∧
            resolveAndCheck s = raise (publish s w h) .allocationFailure 0 0 ∨
           (exceeds s.par.bandCapacity (ceil4 w) = false ∧ exceeds s.par.outCapacity (w * h * 3) = false) ∧
            resolveAndCheck s = beginTraversal (publish s w h)))) := by
  cases e : resolveHeight s.reqHeight.toNat (resolveWidth s.reqWidth.toNat s.streamLen.toNat) s.streamLen.toNat with
  | none => exact .inl ⟨rfl, by simp [resolveAndCheck, e]⟩
  | some h =>
    refine .inr ⟨_, h, rfl, e, ?_⟩
    have hr : resolveAndCheck s = checkAndBegin s (resolveWidth s.reqWidth.toNat s.streamLen.toNat) h s.streamLen.toNat := by
      simp [resolveAndCheck, e]
    rw [hr]
    generalize resolveWidth s.reqWidth.toNat s.streamLen.toNat = w
    unfold checkAndBegin
    by_cases h1 : 2 ^ 32 ≤ w ∨ 2 ^ 32 ≤ h
    · exact .inl ⟨h1, by rw [if_pos h1]⟩
    · have h1' : w < 2 ^ 32 ∧ h < 2 ^ 32 := by omega
      refine .inr ⟨h1', ?_⟩
      rw [if_neg h1]
      by_cases h2 : s.streamLen.toNat < requiredBytes w h
      · exact .inl ⟨h2, by rw [if_pos h2]⟩
      · refine .inr ⟨by omega, ?_⟩
        rw [if_neg h2]
        cases h3 : exceeds s.par.bandCapacity (ceil4 w) <;> cases h4 : exceeds s.par.outCapacity (w * h * 3) <;> simp

end Sys2Proof.Machine
end

