-- ==== Sys2Proof/Tests/Slice0.lean ====
section
/-!
SUPPORT. The model's own tests: expected results from spec/95_test_vectors.md and spec/40_colormath.md or by hand from the rules,
one step each; and for every obligation with hypotheses a concrete input that meets them.
-/

namespace Sys2Proof.Machine.Tests

-- One theorem after the other: each kernel evaluation waits for all before it, and would hold a thread while it waits.
set_option Elab.async false

/-! ### Small states -/

/-- Vector I1. -/
def blockI1 : Block := 0xA15F083CCCCCAAAA

/-- Vector D1. -/
def blockD1 : Block := 0x8344FF77A3F0A5CC

/-- The state a step leads to, or `s` where it stops. -/
def after (s : State) : State :=
  match step s with
  | .next t => t
  | .fault _ => s
  | .refused _ => s

/-- The state an instruction leads to, or `s` where it stops. -/
def ran (i : Instr) (s : State) : State :=
  match exec i s with
  | .next t => t
  | .fault _ => s
  | .refused _ => s

/-- The four pixels of column `c` of a tile, as numbers `0xRRGGBB`. -/
def column (t : Tile) (c : Nat) : List Nat :=
  (List.range 4).map fun r => match tileGet t (4 * c + r) with
    | some p => p.r.toNat * 65536 + p.g.toNat * 256 + p.b.toNat
    | none => 0

/-- The four columns of a block's pixels after running it. -/
def pixels (w : Block) : List (List Nat) :=
  (List.range 4).map (column (ran (decodeBlock specLayout w) State.reset).dp.pix)

/-- Reset, with the three parameter registers and the stream set. -/
def asking (w h : BitVec 32) (len : BitVec 64) (bytes : List Byte) : State :=
  { State.reset with reqWidth := w, reqHeight := h, streamLen := len, stream := memOfBytes 0 bytes }

/-- `asking` with capacities. -/
def limited (s : State) (band out : Option Nat) : State :=
  { s with par := { s.par with bandCapacity := band, outCapacity := out } }

/-- PROG1's state before `START`. -/
def prog1 : State := asking 8 4 16 (bytesOfBlock blockI1 ++ bytesOfBlock blockD1)

/-- PROG4b's state before `START`: 16 bytes declared, 12 supplied. -/
def prog4b : State := asking 8 4 16 (bytesOfBlock blockI1 ++ [0x83, 0x44, 0xFF, 0x77])

/-- PROG1 at `READ(0, 0)`. -/
def reading : State := ran (.start 0) prog1

/-- PROG4b at `READ(0, 1)`. -/
def shortReading : State := after (ran (.start 0) prog4b)

/-- A 1 x 1 decode of I1 at `EMIT(0, 0, 0, 0)`. -/
def firstVisit : State := after (ran (.start 0) (asking 1 1 8 (bytesOfBlock blockI1)))

/-- The same decode at its last pixel visit, `EMIT(0, 3, 0, 3)`: the one pixel `AF5A05` has been emitted. -/
def lastVisit : State :=
  { firstVisit with rowJ := 3, colK := 3, outp := 3, out := [(0, 0xAF), (1, 0x5A), (2, 0x05)] }

/-- The same decode in `DONE`. -/
def finished : State := after lastVisit

/-! ### Well-formedness: each check refuses an ill-formed term -/

/-- `DIFFERENTIAL` with 0 - 4 in red assembles to a `T` block. -/
theorem test_wf_refuses_differential : (Instr.differential ⟨0, 4, 0, 0, 0, 0, 0, 0, 0, 0, 0⟩).wf specLayout = false := by decide

/-- `T` with 0 + 0 in red assembles to a `DIFFERENTIAL` block. -/
theorem test_wf_refuses_t : (Instr.t ⟨0, 0, 0, 0, 0, 0, 0, 0, 0, 0, 0, 0, 0⟩).wf specLayout = false := by decide

/-- `H` with 0 + 0 in green assembles to a `DIFFERENTIAL` block. -/
theorem test_wf_refuses_h : (Instr.h ⟨0, 0, 0, 0, 0, 0, 0, 0, 0, 0, 0, 0, 0, 0, 0⟩).wf specLayout = false := by decide

/-- `PLANAR` with 0 + 0 in blue assembles to a `DIFFERENTIAL` block. -/
theorem test_wf_refuses_planar : (Instr.planar ⟨0, 0, 0, 0, 0, 0, 0, 0, 0, 0, 0, 0, 0, 0, 0, 0, 0⟩).wf specLayout = false := by decide

/-! ### Decoding: words written out from the layout tables R52 to R56, R62 -/

/-- R52, vector I2: R0 R1 G0 G1 B0 B1 TS0 TS1 DIFF FLIP, then the planes. -/
theorem test_decode_individual :
    decode specLayout (.block 0b1010_0001_0101_1111_0000_1000_001_111_0_1_1100110011001100_1010101010101010) =
      .ok (.individual ⟨0b1010, 0b0001, 0b0101, 0b1111, 0b0000, 0b1000, 0b001, 0b111, 1, 0xCCCC, 0xAAAA⟩) := by decide +kernel

/-- R53, vector D2: R0 DR G0 DG B0 DB TS0 TS1 DIFF FLIP. -/
theorem test_decode_differential :
    decode specLayout (.block 0b00000_000_11111_000_00100_100_111_000_1_0_0011001100110011_0101010101010101) =
      .ok (.differential ⟨0, 0, 31, 0, 4, 0b100, 7, 0, 0, 0x3333, 0x5555⟩) := by decide +kernel

/-- R54, vector T2: unused, TR0a, unused, TR0b, G0, B0, R1, G1, B1, TDa, DIFF, TDb. -/
theorem test_decode_t :
    decode specLayout (.block 0b000_00_1_00_0000_0000_1111_0000_0111_11_1_1_1010001111110000_1010010111001100) =
      .ok (.t ⟨0, 0, 1, 0, 0, 0, 0xF, 0, 7, 3, 1, 0xA3F0, 0xA5CC⟩) := by decide +kernel

/-- R55, vector H2: unused, R0, HG0a, unused, HG0b, HB0a, unused, HB0b, R1, G1, B1, HDa, DIFF, HDb. -/
theorem test_decode_h :
    decode specLayout (.block 0b0_1011_001_000_0_0_1_110_0011_1001_1101_1_1_0_1100110011001100_1010101010101010) =
      .ok (.h ⟨0, 0xB, 1, 0, 0, 0, 1, 6, 3, 9, 0xD, 1, 0, 0xCCCC, 0xAAAA⟩) := by decide +kernel

/-- R56, vector P1: unused, RO, GOa, unused, GOb, BOa, unused, BOb, unused, BOc, RHa, DIFF, RHb, GH, BH, RV, GV, BV;
raw O (10, 20, 30), H (40, 90, 50), V (63, 0, 5). -/
theorem test_decode_planar :
    decode specLayout (.block 0b1_001010_0_0_010100_0_111_11_0_110_10100_1_0_1011010_110010_111111_0000000_000101) =
      .ok (.planar ⟨1, 10, 0, 0, 20, 0, 7, 3, 0, 6, 20, 0, 90, 50, 63, 0, 5⟩) := by decide +kernel

/-- R62: bit 0 set is `START` whatever bits 31:1 are; bit 0 clear is no instruction. -/
theorem test_decode_start :
    decode specLayout (.ctrl 0b11111111111111111111111111111111) = .ok (.start 0x7FFFFFFF) ∧
    decode specLayout (.ctrl 0b10) = .error .startBitClear := by decide

/-- R27, D13: the layout is a parameter. With the places of R0 and R1 exchanged, vector I2 decodes to exchanged reds. -/
theorem test_decode_other_layout :
    decode { specLayout with individual := { individualLayout with r0 := 56, r1 := 60 } } (.block 0xA15F083CCCCCAAAA) =
      .ok (.individual ⟨0x1, 0xA, 0x5, 0xF, 0x0, 0x8, 1, 7, 0, 0xCCCC, 0xAAAA⟩) := by decide +kernel

/-- Seven bytes are no block. -/
theorem test_decode_seven_bytes : decodeBytes specLayout [1, 2, 3, 4, 5, 6, 7] = .error (.notEightBytes 7) := by decide

/-- The encoder writes vector P1 and D1 back from their fields. -/
theorem test_encode_from_fields :
    encode specLayout (.planar ⟨1, 10, 0, 0, 20, 0, 7, 3, 0, 6, 20, 0, 90, 50, 63, 0, 5⟩) = .block 0x9428FB52B597E005 ∧
    encode specLayout (.differential ⟨16, 3, 8, 4, 31, 7, 3, 5, 1, 0xA3F0, 0xA5CC⟩) = .block blockD1 := by decide +kernel

/-- Vectors V-MODE: `OVFSET` membership at its edges, and the order of the three tests. -/
theorem test_mode_selection :
    modeOf specLayout 0x0404040000000000 = .individual ∧ modeOf specLayout 0x0404040200000000 = .t ∧ modeOf specLayout 0x0004040200000000 = .h ∧
    modeOf specLayout 0x0000040200000000 = .planar ∧ modeOf specLayout 0x0000000200000000 = .differential ∧ modeOf specLayout 0x1B00000200000000 = .differential ∧
    modeOf specLayout 0x1C00000200000000 = .t ∧ modeOf specLayout 0x1F00000200000000 = .differential ∧ modeOf specLayout 0xFB00000200000000 = .t ∧
    modeOf specLayout 0xFC00000200000000 = .differential := by decide +kernel

/-! ### ColorMath (vectors V-EXT, V-ADD, V-CLAMP) -/

theorem test_extensions :
    ext4 0xA = 0xAA ∧ ext5 0x13 = 0x9C ∧ ext5 0x04 = 0x21 ∧ ext6 0x32 = 0xCB ∧ ext7 0x40 = 0x81 ∧ ext7 0x3F = 0x7E := by decide

theorem test_adds3to5 :
    adds3to5 0b100 0 = 0xFC ∧ adds3to5 0b011 28 = 0x1F ∧ adds3to5 0b001 31 = 0x20 ∧ adds3to5 0b100 31 = 0x1B := by decide

theorem test_clampAdd :
    clampAdd 0xFF (-183) = 0x48 ∧ clampAdd 0x48 (-72) = 0 ∧ clampAdd 0x49 (-72) = 1 ∧ clampAdd 0xF7 80 = 0xFF := by decide

/-! ### One block each: all 16 pixels, by column -/

/-- Vector I1: both halves, clamping both ways. -/
theorem test_individual_pixels : pixels blockI1 =
    [[0xAF5A05, 0xBB6611, 0xA55000, 0x994400], [0xAF5A05, 0xBB6611, 0xA55000, 0x994400],
     [0x40FFB7, 0xC8FFFF, 0x00D059, 0x004800], [0x40FFB7, 0xC8FFFF, 0x00D059, 0x004800]] := by decide +kernel

/-- Vector I2: the same flipped. -/
theorem test_individual_flipped : pixels 0xA15F083DCCCCAAAA =
    [[0xAF5A05, 0xBB6611, 0x00D059, 0x004800], [0xAF5A05, 0xBB6611, 0x00D059, 0x004800],
     [0xAF5A05, 0xBB6611, 0x00D059, 0x004800], [0xAF5A05, 0xBB6611, 0x00D059, 0x004800]] := by decide +kernel

/-- Vector D1: flipped, irregular indices. -/
theorem test_differential_pixels : pixels blockD1 =
    [[0x914FFF, 0x914FFF, 0xEC71FF, 0xEC71FF], [0x7735F2, 0x7735F2, 0x4C00A7, 0x4C00A7],
     [0x5A18D5, 0x7735F2, 0xEC71FF, 0xB439FF], [0x914FFF, 0x5A18D5, 0xB439FF, 0x4C00A7]] := by decide +kernel

/-- Vector D3: the largest second colour. -/
theorem test_differential_edge :
    (ran (decodeBlock specLayout 0xE3E3E3FE0000FFFF) State.reset).dp.base1 = ⟨0xFF, 0xFF, 0xFF⟩ := by decide +kernel

/-- Vector T2. -/
theorem test_t_pixels : pixels 0x0400F07FA3F0A5CC =
    [[0x000000, 0x000000, 0xFF40B7, 0xFF40B7], [0xFF0077, 0xFF0077, 0xBF0037, 0xBF0037],
     [0xBF0037, 0xFF0077, 0xFF40B7, 0x000000], [0x000000, 0xBF0037, 0x000000, 0xBF0037]] := by decide +kernel

/-- Vector T1's colours and selector. -/
theorem test_t_fields :
    (ran (decodeBlock specLayout 0x1C3F28EBCCCCAAAA) State.reset).dp.base0 = ⟨0xCC, 0x33, 0xFF⟩ ∧
    (ran (decodeBlock specLayout 0x1C3F28EBCCCCAAAA) State.reset).dp.dsel = 5 := by decide +kernel

/-- Vector H3: equal colours set the low selector bit. -/
theorem test_h_pixels : pixels 0x2AF2AAAFA3F0A5CC =
    [[0x959595, 0x959595, 0x151515, 0x151515], [0x959595, 0x959595, 0x151515, 0x151515],
     [0x151515, 0x959595, 0x151515, 0x959595], [0x959595, 0x151515, 0x959595, 0x151515]] := by decide +kernel

/-- Vectors H1 and H2: the order of the colours chooses the distance. -/
theorem test_h_ordering :
    (ran (decodeBlock specLayout 0x9CFAD936CCCCAAAA) State.reset).dp.dsel = 4 ∧
    (ran (decodeBlock specLayout 0x59071CEECCCCAAAA) State.reset).dp.dsel = 5 := by decide +kernel

/-- Vector P1. -/
theorem test_planar_pixels : pixels 0x9428FB52B597E005 =
    [[0x7C4174, 0xB2375B, 0xE82D42, 0xFF2329], [0x9B6589, 0xD15B70, 0xFF5156, 0xFF473D],
     [0xB9889D, 0xEF7E84, 0xFF746B, 0xFF6A52], [0xD8ABB2, 0xFFA199, 0xFF977F, 0xFF8D66]] := by decide +kernel

/-- Vector P3: the floor of a negative sum, clamped. -/
theorem test_planar_floor : pixels 0x7F7FFB8200000000 =
    [[0x808080, 0x404040, 0, 0], [0x404040, 0, 0, 0], [0, 0, 0, 0], [0, 0, 0, 0]] := by decide +kernel

/-! ### START (vectors V-RSI, PROG4) -/

/-- PROG4a: `InvalidResolution(32, 24)` with the size published. -/
theorem test_start_too_short :
    let t := ran (.start 0) (asking 8 8 24 [])
    t.status = .error ∧ t.errKind = .invalidResolution ∧ t.errRequired = 32 ∧ t.errAvailable = 24 ∧ t.resWidth = 8 ∧
      t.resHeight = 8 := by decide +kernel

/-- V-RSI row 11: width 5 given, height 16 inferred from 9 blocks. -/
theorem test_start_infers_height :
    let t := ran (.start 0) (asking 5 0 72 [])
    t.status = .busy ∧ t.resWidth = 5 ∧ t.resHeight = 16 ∧ t.xb = 2 ∧ t.yb = 4 := by decide +kernel

/-! ### Steps -/

/-- PROG1's first block read: `POS` 8, slot 0 filled, next the read of block 1. -/
theorem test_step_block_read :
    let t := after reading
    t.pos = 8 ∧ t.blockX = 1 ∧ t.phase = .read ∧ bandPixel t.band 0 0 = some ⟨0xAF, 0x5A, 0x05⟩ := by decide +kernel

/-- PROG4b's second block read: `ShortRead(16, 12)`. -/
theorem test_step_short_read :
    let t := after shortReading
    t.status = .error ∧ t.errKind = .shortRead ∧ t.errRequired = 16 ∧ t.errAvailable = 12 ∧ t.resWidth = 8 := by decide +kernel

/-- PROG7's last line: the 1 x 1 image is `AF 5A 05`; the first visit emits it. -/
theorem test_step_first_visit :
    let t := after firstVisit
    t.out = [(0, 0xAF), (1, 0x5A), (2, 0x05)] ∧ t.outp = 3 ∧ t.colK = 1 := by decide +kernel

/-- The last visit of the only band ends the decode. -/
theorem test_step_last_visit : finished.status = .done ∧ finished.outp = 3 ∧ finished.band = [] := by decide +kernel

/-- R170: reset while `BUSY`. -/
theorem test_step_reset :
    let t := after { reading with host := [.reset] }
    t.status = .idle ∧ t.resWidth = 0 ∧ t.xb = 0 ∧ t.reqWidth = 0 := by decide +kernel

/-- A placed table word is the very next thing that runs. -/
theorem test_placed_words_run :
    (after (State.reset.withFetchWord 64 0x1C3F28EBCCCCAAAA)).dp.mode = .t ∧
    (after (State.reset.withFetchWord 64 0x1C3F28EBCCCCAAAA)).pos = 8 ∧
    (after (State.reset.withFetchWord 32 1)).errKind = .invalidResolution ∧
    decodeTableWord 32 1 = some (.start 0) ∧
    decodeTableWord 64 0x8344FF77A3F0A5CC = some (.differential ⟨16, 3, 8, 4, 31, 7, 3, 5, 1, 0xA3F0, 0xA5CC⟩) := by
  decide +kernel

/-! ### Witnesses: inputs that meet the hypotheses of the obligations -/

theorem witness_ColorMathIsMonotone :
    (14 : BitVec 4) < 15 ∧ (30 : BitVec 5) < 31 ∧ (62 : BitVec 6) < 63 ∧ (63 : BitVec 7) < 64 ∧
    (254 : Channel) ≤ 255 ∧ (-1 : Int) ≤ 1 := by decide

/-- One sum in each of the three ranges, at the ends of the first. -/
theorem witness_SignedAddWrapsAtEightBits :
    (0 ≤ ((4 : BitVec 5).toNat : Int) + (4 : BitVec 3).toInt ∧ ((28 : BitVec 5).toNat : Int) + (3 : BitVec 3).toInt ≤ 31) ∧
    ((3 : BitVec 5).toNat : Int) + (4 : BitVec 3).toInt < 0 ∧
    31 < ((31 : BitVec 5).toNat : Int) + (1 : BitVec 3).toInt := by decide

theorem witness_Etc1FormsRoundTrip :
    (Instr.differential ⟨16, 3, 8, 4, 31, 7, 3, 5, 1, 0xA3F0, 0xA5CC⟩).wf specLayout = true := by decide +kernel

theorem witness_PaintFormsRoundTrip :
    (Instr.t ⟨0, 3, 1, 0, 0x3, 0xF, 0x2, 0x8, 0xE, 2, 1, 0xCCCC, 0xAAAA⟩).wf specLayout = true ∧
    (Instr.h ⟨0, 5, 2, 7, 1, 0, 0, 5, 5, 5, 5, 1, 1, 0xA3F0, 0xA5CC⟩).wf specLayout = true := by decide +kernel

theorem witness_PlanarFormRoundTrips :
    (Instr.planar ⟨1, 10, 0, 0, 20, 0, 7, 3, 0, 6, 20, 0, 90, 50, 63, 0, 5⟩).wf specLayout = true := by decide +kernel

theorem witness_StartCommandRoundTrips : decode specLayout (.ctrl 0xFFFFFFFF) = .ok (.start 0x7FFFFFFF) := by decide

theorem witness_DifferentialSecondColourIsExact :
    (Instr.differential ⟨28, 3, 4, 4, 0, 0, 7, 7, 0, 0, 0xFFFF⟩).wf specLayout = true := by decide +kernel

theorem witness_PlanarBlockInterpolates : (0 : Nat) < 4 ∧ (3 : Nat) < 4 := by decide

/-- Vector P1's colours: the four corners exist. -/
theorem witness_PlanarCornerValues :
    ∃ p0 p3 p12 p15,
      let t := reconPlanar 1 ⟨0x28, 0x28, 0x79⟩ ⟨0xA2, 0xB5, 0xCB⟩ ⟨0xFF, 0x00, 0x14⟩
      tileGet t 0 = some p0 ∧ tileGet t 3 = some p3 ∧ tileGet t 12 = some p12 ∧ tileGet t 15 = some p15 :=
  ⟨_, _, _, _, rfl, rfl, rfl, rfl⟩

theorem witness_PlanarFlatAndTransposed : (15 : Nat) < 16 ∧ (3 : Nat) < 4 ∧ (0 : Nat) < 4 := by decide

/-- Planes that differ, but not at position 15. -/
theorem witness_PixelsDependOnOwnIndexBits :
    (15 : Nat) < 16 ∧ (0xCCCC : BitVec 16).getLsbD 15 = (0x8000 : BitVec 16).getLsbD 15 ∧
    (0xAAAA : BitVec 16).getLsbD 15 = (0xFFFF : BitVec 16).getLsbD 15 := by decide

theorem witness_PixelIndexAndSubblock : (7 : Nat) < 16 ∧ (8 : Nat) < 16 := by decide

theorem witness_BlockInstructionsFrame :
    ∃ t, (∀ ignored, decodeBlock specLayout blockD1 ≠ .start ignored) ∧ exec (decodeBlock specLayout blockD1) reading = .next t :=
  ⟨ran (decodeBlock specLayout blockD1) reading, by
    have : decodeBlock specLayout blockD1 = .differential ⟨16, 3, 8, 4, 31, 7, 3, 5, 1, 0xA3F0, 0xA5CC⟩ := by decide +kernel
    simp [this], by
    obtain ⟨t, e⟩ := exec_completes (decodeBlock specLayout blockD1) reading
    rw [ran, e]⟩

theorem witness_WidthInferenceIsExactRoot :
    (5 : Nat) ≠ 0 ∧ prog1.status ≠ .busy ∧ exec (.start 0) prog1 = .next reading ∧ reading.status ≠ .error :=
  ⟨by decide, by decide, rfl, by decide +kernel⟩

/-- The first clause, the second at a width of 1, and the division by zero at its largest declared length. -/
theorem witness_HeightInferenceAndZeroWidth :
    (4 : Nat) ≠ 0 ∧ (1 + 3) / 4 ≠ 0 ∧ (asking 0 0 7 []).status ≠ .busy ∧ (asking 0 0 7 []).askedHeight = none ∧
    prog1.status ≠ .busy ∧ exec (.start 0) prog1 = .next reading ∧ reading.status ≠ .error :=
  ⟨by decide, by decide, by decide, by decide +kernel, by decide, rfl, by decide +kernel⟩

theorem witness_InferredHeightAlwaysFits : resolveHeight 0 (resolveWidth 5 72) 72 = some 16 := by decide +kernel

/-- A width of exactly 2^32, a height of exactly 2^32 with exactly 2^33 bytes, and the largest width below. -/
theorem witness_StartPublishesResolvedSize :
    ((asking 0 4 0x8000000000000000 []).askedHeight = some 4 ∧ 2 ^ 32 ≤ (asking 0 4 0x8000000000000000 []).askedWidth) ∧
    ((asking 4 0 0x200000000 []).askedHeight = some (2 ^ 32) ∧ (asking 4 0 0x200000000 []).status ≠ .busy) ∧
    (asking 0xFFFFFFFF 1 0 []).askedHeight = some 1 ∧ (asking 0xFFFFFFFF 1 0 []).askedWidth < 2 ^ 32 := by decide +kernel

/-- One byte short. -/
theorem witness_StartChecksDeclaredLength :
    let s := asking 9 5 47 []
    s.status ≠ .busy ∧ s.askedHeight = some 5 ∧ s.askedWidth < 2 ^ 32 ∧ (5 : Nat) < 2 ^ 32 ∧
      s.streamLen.toNat < (s.askedWidth + 3) / 4 * ((5 + 3) / 4) * 8 := by decide +kernel

/-- Both capacities unbounded. -/
theorem witness_StartChecksCapacities_unbounded :
    prog1.status ≠ .busy ∧ prog1.par.bandCapacity = none ∧ prog1.par.outCapacity = none ∧
      exec (.start 0) prog1 = .next reading :=
  ⟨by decide, rfl, rfl, rfl⟩

/-- A band one slot short, and an output one byte short. -/
theorem witness_StartChecksCapacities :
    let s := limited prog1 (some 1) (some 95)
    s.status ≠ .busy ∧ s.askedHeight = some 4 ∧ s.askedWidth < 2 ^ 32 ∧ (4 : Nat) < 2 ^ 32 ∧
      (s.askedWidth + 3) / 4 * ((4 + 3) / 4) * 8 ≤ s.streamLen.toNat ∧
      s.par.bandCapacity = some 1 ∧ 1 < (s.askedWidth + 3) / 4 ∧ s.par.outCapacity = some 95 ∧ 95 < s.askedWidth * 4 * 3 := by
  decide +kernel

/-- The exact capacities, the exact declared length. -/
theorem witness_StartBeginsDecode :
    let s := limited prog1 (some 2) (some 96)
    s.status ≠ .busy ∧ s.askedHeight = some 4 ∧ s.askedWidth < 2 ^ 32 ∧ (4 : Nat) < 2 ^ 32 ∧
      (s.askedWidth + 3) / 4 * ((4 + 3) / 4) * 8 ≤ s.streamLen.toNat ∧
      s.par.bandCapacity = some 2 ∧ (s.askedWidth + 3) / 4 ≤ 2 ∧ s.par.outCapacity = some 96 ∧ s.askedWidth * 4 * 3 ≤ 96 := by
  decide +kernel

/-- `START` in `IDLE` and while `BUSY`. -/
theorem witness_StartFrame :
    (∃ t, prog1.status ≠ .busy ∧ exec (.start 0) prog1 = .next t) ∧
    ∃ t, reading.status = .busy ∧ exec (.start 0) reading = .next t :=
  ⟨⟨_, by decide, rfl⟩, ⟨_, by decide +kernel, rfl⟩⟩

/-- Two histories: after reset, and after an error of an earlier `START`. -/
theorem witness_StartForgetsHistory :
    let b := { prog1 with status := .error, errKind := .shortRead, pos := 8, w := 8, resWidth := 8 }
    prog1.status ≠ .busy ∧ b.status ≠ .busy ∧ prog1.reqWidth = b.reqWidth ∧ prog1.reqHeight = b.reqHeight ∧
      prog1.streamLen = b.streamLen ∧ prog1.stream = b.stream ∧ prog1.par = b.par ∧ prog1.host = b.host := by decide

theorem reading_turn : reading.CoreTurn [] := Or.inl ⟨rfl, rfl⟩

/-- The core's turn with a block to read, and a `CTRL` write of 1. -/
theorem witness_StepRunsDecodedInstruction :
    (reading.CoreTurn [] ∧ reading.status = .busy ∧ reading.phase = .read ∧
      blockOfBytes (memRead reading.stream reading.pos 8) = some blockI1) ∧
    ({ prog1 with host := [.write 3 1] }).host = .write 3 1 :: [] ∧ decode specLayout (.ctrl ((1 : BitVec 64).setWidth 32)) = .ok (.start 0) :=
  ⟨⟨reading_turn, by decide +kernel, by decide +kernel, by decide +kernel⟩, rfl, by decide⟩

/-- The last slot of the band and an earlier one; `host` waiting is the core's turn too. -/
theorem witness_BlockReadFillsBandSlot :
    (reading.CoreTurn [] ∧ reading.status = .busy ∧ reading.phase = .read ∧
      blockOfBytes (memRead reading.stream reading.pos 8) = some blockI1 ∧ reading.blockX + 1 < reading.xb) ∧
    let s := { after reading with host := [.wait] }
    s.CoreTurn [] ∧ s.status = .busy ∧ s.phase = .read ∧ blockOfBytes (memRead s.stream s.pos 8) = some blockD1 ∧
      s.xb ≤ s.blockX + 1 :=
  ⟨⟨reading_turn, by decide +kernel⟩, Or.inr (Or.inl rfl), by decide +kernel⟩

theorem witness_ShortReadEntersError :
    shortReading.CoreTurn [] ∧ shortReading.status = .busy ∧ shortReading.phase = .read ∧
      (memRead shortReading.stream shortReading.pos 8).length < 8 :=
  ⟨Or.inl ⟨by decide +kernel, rfl⟩, by decide +kernel⟩

/-- The same state meets the invariant, and its position is within the stream. -/
theorem shortReading_inv : shortReading.Inv := by
  have hb : shortReading.band = [(0, decodeTile runParams blockI1)] := by decide +kernel
  have hs : streamBlock shortReading.stream 0 = some blockI1 := by decide +kernel
  have hx : shortReading.blockX = 1 := by decide +kernel
  have hxb : shortReading.xb = 2 := by decide +kernel
  have hy : shortReading.bandY = 0 := by decide +kernel
  have he : shortReading.emitted = 0 := by decide +kernel
  have hp : shortReading.par = runParams := by decide +kernel
  have hst : shortReading.status = .busy := by decide +kernel
  have hph : shortReading.phase = .read := by decide +kernel
  refine ⟨by unfold Gapless; decide +kernel, ?_⟩
  rw [hst]
  refine ⟨by unfold State.NoError; decide +kernel, by unfold State.SizesResolved; decide +kernel,
    by unfold State.Admitted; decide +kernel, ⟨by decide +kernel, by decide +kernel, ?_⟩, ?_⟩
  · intro x y _ _ h
    rw [he] at h
    exact absurd h (Nat.not_lt_zero _)
  · rw [hph]
    refine ⟨by decide +kernel, by decide +kernel, by decide +kernel, by decide +kernel, by decide +kernel, ?_, ?_, ?_⟩
    · rw [hb]
      exact List.pairwise_singleton _ _
    · intro x hx'
      rw [hx] at hx'
      obtain rfl : x = 0 := by omega
      exact ⟨blockI1, by rw [hy, hxb]; exact hs, by rw [hb, hp]; rfl⟩
    · intro x hx'
      rw [hx] at hx'
      have : x ≠ 0 := by omega
      rw [hb]
      simp [Store.read_cons, this]

theorem witness_ShortReadEntersError_clauses :
    Gapless shortReading.stream ∧ shortReading.pos ≤ shortReading.stream.length ∧ shortReading.Inv :=
  ⟨by unfold Gapless; decide +kernel, by decide +kernel, shortReading_inv⟩

/-- The first visit of a decode that the host waits for puts a byte into `OUT`. -/
theorem witness_VisitAppendsImagePixel_only :
    let s := { firstVisit with host := [.awaitNotBusy] }
    step s = .next (visitPixel s) ∧ byteAt (visitPixel s).out 2 = some 0x05 ∧ byteAt s.out 2 ≠ some 0x05 ∧
      s.CoreTurn [.awaitNotBusy] :=
  ⟨rfl, by decide +kernel, by decide +kernel, Or.inr (Or.inr ⟨by decide +kernel, rfl, _, rfl⟩)⟩

theorem witness_VisitAppendsImagePixel :
    let d := decodeTile runParams blockI1
    firstVisit.CoreTurn [] ∧ firstVisit.status = .busy ∧ firstVisit.phase = .emit ∧
      Store.read firstVisit.band firstVisit.blockX = some d ∧
      tileGet d (firstVisit.colK * 4 + firstVisit.rowJ) = some ⟨0xAF, 0x5A, 0x05⟩ ∧
      firstVisit.blockX * 4 + firstVisit.colK < firstVisit.w ∧ firstVisit.bandY * 4 + firstVisit.rowJ < firstVisit.h :=
  ⟨Or.inl ⟨by decide +kernel, rfl⟩, by decide +kernel⟩

/-- The first padding column, and the first padding row. -/
theorem witness_VisitDiscardsPadding :
    let c := { firstVisit with colK := 1 }
    let r := { firstVisit with rowJ := 1 }
    (c.CoreTurn [] ∧ c.status = .busy ∧ c.phase = .emit ∧ c.w ≤ c.blockX * 4 + c.colK) ∧
    (r.CoreTurn [] ∧ r.status = .busy ∧ r.phase = .emit ∧ r.h ≤ r.bandY * 4 + r.rowJ) :=
  ⟨⟨Or.inl ⟨by decide +kernel, rfl⟩, by decide +kernel⟩, ⟨Or.inl ⟨by decide +kernel, rfl⟩, by decide +kernel⟩⟩

/-- A visit with more to come, and the last one of the last band. -/
theorem witness_EmissionFollowsLoopOrder :
    (firstVisit.CoreTurn [] ∧ firstVisit.status = .busy ∧ firstVisit.phase = .emit ∧ firstVisit.blockX < firstVisit.xb ∧
      firstVisit.rowJ < 4 ∧ firstVisit.colK < 4 ∧
      (firstVisit.rowJ * firstVisit.xb + firstVisit.blockX) * 4 + firstVisit.colK + 1 < 16 * firstVisit.xb) ∧
    (lastVisit.CoreTurn [] ∧ lastVisit.status = .busy ∧ lastVisit.phase = .emit ∧ lastVisit.blockX < lastVisit.xb ∧
      lastVisit.rowJ < 4 ∧ lastVisit.colK < 4 ∧
      16 * lastVisit.xb ≤ (lastVisit.rowJ * lastVisit.xb + lastVisit.blockX) * 4 + lastVisit.colK + 1 ∧
      lastVisit.yb ≤ lastVisit.bandY + 1) :=
  ⟨⟨Or.inl ⟨by decide +kernel, rfl⟩, by decide +kernel⟩, ⟨Or.inl ⟨by decide +kernel, rfl⟩, by decide +kernel⟩⟩

theorem witness_HostReadsRegister : ({ reading with host := [.read 9] }).host = .read 9 :: [] := rfl

theorem witness_HostWritesRegister :
    let s := { prog1 with host := [.write 3 2] }
    s.host = .write 3 2 :: [] ∧ s.status ≠ .busy ∧ (2 : BitVec 64).getLsbD 0 = false := by decide

theorem witness_WritesWhileBusyAreIgnored :
    let s := { reading with host := [.write 3 1] }
    s.host = .write 3 1 :: [] ∧ s.status = .busy := by decide +kernel

/-- The last byte of the image, the first address after it, and a read outside `DONE`. -/
theorem witness_HostReadsOut :
    (let s := { finished with host := [.readOut 2] }
     s.host = .readOut 2 :: [] ∧ s.status = .done ∧ 2 < s.w * s.h * 3 ∧ byteAt s.out 2 = some 0x05) ∧
    (let s := { finished with host := [.readOut 3] }
     s.host = .readOut 3 :: [] ∧ s.status = .done ∧ s.w * s.h * 3 ≤ 3) ∧
    (let s := { reading with host := [.readOut 0] }
     s.host = .readOut 0 :: [] ∧ s.status ≠ .done) := by decide +kernel

theorem witness_HostSuppliesStream :
    (let s := { prog1 with host := [.supply [1, 2]] }
     s.host = .supply [1, 2] :: [] ∧ s.status ≠ .busy) ∧
    (let s := { reading with host := [.supply []] }
     s.host = .supply [] :: [] ∧ s.status = .busy) := by decide +kernel

theorem witness_ResetAppliesInAnyState :
    ({ reading with host := [.reset] }).host = .reset :: [] ∧ reading.status = .busy := by decide +kernel

theorem firstVisit_band : firstVisit.band = [(0, decodeTile runParams blockI1)] := by decide +kernel

theorem firstVisit_block : streamBlock firstVisit.stream 0 = some blockI1 := by decide +kernel

/-- The invariant holds in the state before the last step of the 1 x 1 decode. -/
theorem lastVisit_inv : lastVisit.Inv := by
  have hb : lastVisit.band = [(0, decodeTile runParams blockI1)] := firstVisit_band
  have hs : streamBlock lastVisit.stream 0 = some blockI1 := firstVisit_block
  have hx : lastVisit.xb = 1 := by decide +kernel
  have hy : lastVisit.bandY = 0 := by decide +kernel
  have hw : lastVisit.w = 1 := by decide +kernel
  have hh : lastVisit.h = 1 := by decide +kernel
  have he : lastVisit.emitted = 1 := by decide +kernel
  have hp : lastVisit.par = runParams := by decide +kernel
  have hst : lastVisit.status = .busy := by decide +kernel
  have hph : lastVisit.phase = .emit := by decide +kernel
  refine ⟨by unfold Gapless; decide +kernel, ?_⟩
  rw [hst]
  refine ⟨by unfold State.NoError; decide +kernel, by unfold State.SizesResolved; decide +kernel,
    by unfold State.Admitted; decide +kernel, ⟨by decide +kernel, by decide +kernel, ?_⟩, ?_⟩
  · intro x y hx' hy' _
    rw [hw] at hx'
    rw [hh] at hy'
    obtain rfl : x = 0 := by omega
    obtain rfl : y = 0 := by omega
    refine ⟨⟨0xAF, 0x5A, 0x05⟩, by decide +kernel, ?_⟩
    unfold PixelAt
    decide +kernel
  · rw [hph]
    refine ⟨by decide +kernel, by decide +kernel, by decide +kernel, by decide +kernel, by decide +kernel, ?_, ?_, ?_⟩
    · rw [hb]
      exact List.pairwise_singleton _ _
    · intro x hx'
      rw [hx] at hx'
      obtain rfl : x = 0 := by omega
      exact ⟨blockI1, by rw [hy, hx]; exact hs, by rw [hb, hp]; rfl⟩
    · intro x hx'
      rw [hx] at hx'
      have : x ≠ 0 := by omega
      rw [hb]
      simp [Store.read_cons, this]

theorem lastVisit_step : step lastVisit = .next finished := by
  have e : step lastVisit = .next (visitPixel lastVisit) := rfl
  rw [finished, after, e]

theorem witness_StepKeepsInvariant : lastVisit.Inv ∧ step lastVisit = .next finished := ⟨lastVisit_inv, lastVisit_step⟩

theorem witness_StepKeepsMemoryForm : lastVisit.MemoryForm ∧ step lastVisit = .next finished :=
  ⟨by unfold State.MemoryForm; decide +kernel, lastVisit_step⟩

theorem witness_StepKeepsPositionsAligned :
    lastVisit.pos % 8 = 0 ∧ lastVisit.outp % 3 = 0 ∧ step lastVisit = .next finished :=
  ⟨by decide +kernel, by decide +kernel, lastVisit_step⟩

theorem witness_UnrecognizedModeNeverProduced :
    lastVisit.errKind ≠ .unrecognizedMode ∧ step lastVisit = .next finished := ⟨by decide +kernel, lastVisit_step⟩

/-- The two transitions the core makes out of `BUSY`, one into `IDLE`, and one made by the host's `START`. -/
theorem witness_RunStateTransitions :
    (step lastVisit = .next finished ∧ lastVisit.status = .busy ∧ finished.status = .done) ∧
    (∃ t, step shortReading = .next t ∧ shortReading.status = .busy ∧ t.status = .error) ∧
    (∃ t, step { reading with host := [.reset] } = .next t ∧ t.status ≠ reading.status ∧ t.status = .idle) ∧
    ∃ t, step { prog1 with host := [.write 3 1] } = .next t ∧ t.status ≠ prog1.status ∧ prog1.status ≠ .busy ∧
      t.status ≠ .idle :=
  ⟨⟨lastVisit_step, by decide +kernel⟩, ⟨_, rfl, by decide +kernel⟩, ⟨_, rfl, by decide +kernel⟩, ⟨_, rfl, by decide +kernel⟩⟩

/-- Each of the four changes. -/
theorem witness_CoreNeverWritesParameters :
    (∃ t, step { prog1 with host := [.supply [1]] } = .next t ∧ t.stream ≠ prog1.stream) ∧
    (∃ t, step { prog1 with host := [.write 0 1] } = .next t ∧ t.reqWidth ≠ prog1.reqWidth) ∧
    (∃ t, step { prog1 with host := [.write 1 1] } = .next t ∧ t.reqHeight ≠ prog1.reqHeight) ∧
    ∃ t, step { prog1 with host := [.write 2 1] } = .next t ∧ t.streamLen ≠ prog1.streamLen :=
  ⟨⟨_, rfl, by decide +kernel⟩, ⟨_, rfl, by decide +kernel⟩, ⟨_, rfl, by decide +kernel⟩, ⟨_, rfl, by decide +kernel⟩⟩

theorem witness_NoStuckState :
    ((∀ addr rest, reading.host ≠ .readOut addr :: rest) ∧ ∀ bytes rest, reading.host ≠ .supply bytes :: rest) ∧
    prog1.host = [] ∧ prog1.status ≠ .busy :=
  ⟨⟨fun _ _ h => (nomatch (show ([] : List HostOp) = _ from h)), fun _ _ h => (nomatch (show ([] : List HostOp) = _ from h))⟩,
    rfl, by decide⟩

theorem witness_HostCannotDisturbDecode :
    ∃ t, reading.status = .busy ∧ ({ reading with host := [.write 0 1] }).host = .write 0 1 :: [] ∧
      HostOp.write 0 1 ≠ .wait ∧ HostOp.write 0 1 ≠ .awaitNotBusy ∧ HostOp.write 0 1 ≠ .reset ∧
      step { reading with host := [.write 0 1] } = .next t :=
  ⟨_, by decide +kernel, rfl, by decide, by decide, by decide, rfl⟩

theorem witness_UnobservableStateHasNoInfluence :
    lastVisit.Inv ∧ SameDecode lastVisit { lastVisit with dp := Datapath.reset, rdata := 1, freeCtr := 7 } :=
  ⟨lastVisit_inv, rfl⟩

theorem witness_DecodeEndsWithWholeImage :
    lastVisit.Inv ∧ lastVisit.status = .busy ∧ step lastVisit = .next finished ∧ finished.status = .done :=
  ⟨lastVisit_inv, by decide +kernel, lastVisit_step, by decide +kernel⟩

theorem witness_AdmittedDecodeReachesDone :
    prog1.status ≠ .busy ∧ prog1.host = [] ∧ Gapless prog1.stream ∧ exec (.start 0) prog1 = .next reading ∧
      reading.status = .busy ∧ 8 * (reading.xb * reading.yb) ≤ prog1.stream.length ∧ 33 < 17 * (reading.xb * reading.yb) :=
  ⟨by decide, rfl, by unfold Gapless; decide +kernel, rfl, by decide +kernel, by decide +kernel, by decide +kernel⟩

theorem witness_ShortStreamReachesShortRead :
    let t := ran (.start 0) prog4b
    prog4b.status ≠ .busy ∧ prog4b.host = [] ∧ Gapless prog4b.stream ∧ exec (.start 0) prog4b = .next t ∧
      t.status = .busy ∧ prog4b.stream.length < 8 * (t.xb * t.yb) :=
  ⟨by decide, rfl, by unfold Gapless; decide +kernel, rfl, by decide +kernel, by decide +kernel⟩

end Sys2Proof.Machine.Tests
end

section
/-! # Proofs of 10_state.md: the values after reset (R28) -/

namespace Sys2Proof.Machine

/-- `CTRL` holds nothing (R11): no state, the one after reset included, shows anything there. -/
@[simp] theorem csrRead_ctrl (s : State) : csrRead s 3 = 0 := rfl

/-- Settles O47: the fields are those `State.reset` writes down, and `CTRL` reads 0 in every state. -/
theorem resetValues : Obligations.ResetValues := by
  unfold Obligations.ResetValues
  simp only [csrRead_ctrl, State.reset, and_self]

end Sys2Proof.Machine
end

section
/-! # Proofs of 20_memory.md: a block and its 8 stream bytes (R37) -/

namespace Sys2Proof

@[simp] theorem field_or (a b : Block) (lo n : Nat) : field (a ||| b) lo n = field a lo n ||| field b lo n :=
  BitVec.extractLsb'_or

/-- A field reads back what was placed at its own position. -/
@[simp] theorem field_place_same {n : Nat} (v : BitVec n) (lo : Nat) (h : lo + n ≤ 64) : field (place v lo) lo n = v := by
  refine BitVec.eq_of_getLsbD_eq fun i hi => ?_
  have hlo : lo + i < 64 := by omega
  simp [hi, hlo]

/-- A field that ends below a placed value, or begins above it, reads 0 there. -/
@[simp] theorem field_place_disjoint {m : Nat} (v : BitVec m) (pos lo n : Nat) (h : lo + n ≤ pos ∨ pos + m ≤ lo) :
    field (place v pos) lo n = 0 := by
  refine BitVec.eq_of_getLsbD_eq fun i hi => ?_
  rcases h with below | above
  · have hpos : ¬ pos ≤ lo + i := by omega
    simp [hpos]
  · have hm : m ≤ lo + i - pos := by omega
    simp [BitVec.getLsbD_of_ge v _ hm]

/-- The bytes of a block are those it was read from: each byte's field meets its own byte and is disjoint from the other seven. -/
theorem bytesOfBlock_of_blockOfBytes {bs : List Byte} {w : Block} (h : blockOfBytes bs = some w) : bytesOfBlock w = bs := by
  unfold blockOfBytes at h
  split at h
  · cases h
    simp [bytesOfBlock]
  · cases h

/-- Settles O6: the word is the one `blockOfBytes` writes down, and its eight fields are its bytes written back. -/
theorem blocksAreBigEndian : Obligations.BlocksAreBigEndian := by
  unfold Obligations.BlocksAreBigEndian
  intro b0 b1 b2 b3 b4 b5 b6 b7
  obtain ⟨w, hw⟩ := Option.isSome_iff_exists.mp (blockOfBytes_isSome_iff [b0, b1, b2, b3, b4, b5, b6, b7])
  have bytes := bytesOfBlock_of_blockOfBytes hw
  have fields := bytes
  simp only [bytesOfBlock, field, List.cons.injEq, and_true] at fields
  obtain ⟨h0, h1, h2, h3, h4, h5, h6, h7⟩ := fields
  exact ⟨w, hw, h0, h1, h2, h3, h4, h5, h6, h7, bytes⟩

end Sys2Proof
end

section
/-! # Proofs of 40_colormath.md: bit replication (R70 to R73), signed addition and its overflow (R74, R75), clamping (R76, R77) -/

namespace Sys2Proof.Machine

/-! ### Bit replication -/

/-- A value followed by its own top bits, bit `k` up, is its shift formula: those bits are the value shifted right by `k`. -/
theorem append_topBits_toNat {n : Nat} (v : BitVec n) (k m : Nat) (h : n ≤ k + m) :
    (v ++ v.extractLsb' k m).toNat = (v.toNat <<< m) ||| (v.toNat >>> k) := by
  have top : v.toNat >>> k < 2 ^ m := by
    rw [Nat.shiftRight_eq_div_pow]
    refine Nat.div_lt_of_lt_mul ?_
    rw [← pow_add]
    exact v.isLt.trans_le (Nat.pow_le_pow_right (by decide) h)
  rw [BitVec.toNat_append, BitVec.extractLsb'_toNat, Nat.mod_eq_of_lt top]

/-- Shifting out what was appended leaves the value. -/
theorem append_toNat_shiftRight {n m : Nat} (v : BitVec n) (w : BitVec m) : (v ++ w).toNat >>> m = v.toNat := by
  rw [BitVec.toNat_append, Nat.shiftRight_or_distrib, Nat.shiftLeft_shiftRight, Nat.shiftRight_eq_div_pow,
    Nat.div_eq_of_lt w.isLt, Nat.or_zero]

theorem ext4_toNat (v : BitVec 4) : (ext4 v).toNat = (v.toNat <<< 4) ||| v.toNat := BitVec.toNat_append v v

theorem ext5_toNat (v : BitVec 5) : (ext5 v).toNat = (v.toNat <<< 3) ||| (v.toNat >>> 2) :=
  append_topBits_toNat v 2 3 (by decide)

theorem ext6_toNat (v : BitVec 6) : (ext6 v).toNat = (v.toNat <<< 2) ||| (v.toNat >>> 4) :=
  append_topBits_toNat v 4 2 (by decide)

theorem ext7_toNat (v : BitVec 7) : (ext7 v).toNat = (v.toNat <<< 1) ||| (v.toNat >>> 6) :=
  append_topBits_toNat v 6 1 (by decide)

theorem ext4_toNat_eq_mul (v : BitVec 4) : (ext4 v).toNat = 17 * v.toNat := by
  rw [ext4_toNat, ← Nat.shiftLeft_add_eq_or_of_lt v.isLt, Nat.shiftLeft_eq]
  omega

/-- The mask to 8 bits changes no formula that a channel already equals. -/
theorem channel_toNat_eq_mod {c : Channel} {x : Nat} (h : c.toNat = x) : c.toNat = x % 256 := by
  rw [← h, Nat.mod_eq_of_lt c.isLt]

/-- Settles O1: each extension is an append, so its formula and its round trip are those of appending; the ends are computed. -/
theorem extensionsReplicateHighBits : Obligations.ExtensionsReplicateHighBits := by
  unfold Obligations.ExtensionsReplicateHighBits
  refine ⟨fun v => ⟨?_, ext4_toNat_eq_mul v, ?_⟩, fun v => ⟨?_, ?_⟩, fun v => ⟨?_, ?_⟩, fun v => ⟨?_, ?_⟩, by decide⟩
  · exact channel_toNat_eq_mod (ext4_toNat v)
  · exact append_toNat_shiftRight v v
  · exact channel_toNat_eq_mod (ext5_toNat v)
  · exact append_toNat_shiftRight v _
  · exact channel_toNat_eq_mod (ext6_toNat v)
  · exact append_toNat_shiftRight v _
  · exact channel_toNat_eq_mod (ext7_toNat v)
  · exact append_toNat_shiftRight v _

/-! ### Signed addition and its overflow -/

/-- R74's equation: sign extension is the delta mod 256, and the 8-bit sum wraps. -/
theorem adds3to5_toNat (delta : BitVec 3) (base : BitVec 5) :
    ((adds3to5 delta base).toNat : Int) = ((base.toNat : Int) + delta.toInt) % 256 := by
  have := base.isLt
  simp only [adds3to5, BitVec.signExtend, BitVec.toNat_add, BitVec.toNat_setWidth, BitVec.toNat_ofInt]
  omega

/-- Bits 7:5 of the sum count the 32s in it. -/
theorem adds3to5_topBits_eq_of_div {delta : BitVec 3} {base : BitVec 5} {k : BitVec 3}
    (h : ((base.toNat : Int) + delta.toInt) % 256 / 32 = k.toNat) : (adds3to5 delta base).extractLsb' 5 3 = k := by
  have sum := adds3to5_toNat delta base
  refine BitVec.eq_of_toNat_eq ?_
  rw [BitVec.extractLsb'_toNat, Nat.shiftRight_eq_div_pow]
  omega

/-- Settles O3: the exact sum lies in -4 to 34, so each of the three ranges fixes its value mod 256 and the 32s in that. -/
theorem signedAddWrapsAtEightBits : Obligations.SignedAddWrapsAtEightBits := by
  unfold Obligations.SignedAddWrapsAtEightBits
  intro delta base
  have sum := adds3to5_toNat delta base
  have delta_ge : -4 ≤ delta.toInt := delta.le_toInt
  have delta_lt : delta.toInt < 4 := delta.toInt_lt
  have base_lt : base.toNat < 32 := base.isLt
  refine ⟨sum, fun inRange => ⟨?_, adds3to5_topBits_eq_of_div ?_⟩, fun below => ⟨?_, adds3to5_topBits_eq_of_div ?_⟩,
    fun above => ⟨?_, adds3to5_topBits_eq_of_div ?_⟩⟩
  · omega
  · change _ = (0 : Int)
    omega
  · omega
  · change _ = (7 : Int)
    omega
  · omega
  · change _ = (1 : Int)
    omega

theorem ovf5_iff_topBits_ne_zero (base : BitVec 5) (delta : BitVec 3) :
    ovf5 base delta = true ↔ (adds3to5 delta base).extractLsb' 5 3 ≠ 0 := bne_iff_ne

/-- The overflow predicate is the range test of the exact sum: bits 7:5 are 0 inside 0..31 and are 7 or 1 outside (R74). -/
theorem ovf5_iff_sum_leaves_range (base : BitVec 5) (delta : BitVec 3) :
    ovf5 base delta = true ↔ (base.toNat : Int) + delta.toInt < 0 ∨ 31 < (base.toNat : Int) + delta.toInt := by
  obtain ⟨-, inside, below, above⟩ := signedAddWrapsAtEightBits delta base
  rw [ovf5_iff_topBits_ne_zero]
  constructor
  · intro nonzero
    by_contra within
    exact nonzero (inside (by omega)).2
  · rintro (low | high)
    · rw [(below low).2]
      decide
    · rw [(above high).2]
      decide

/-- The range test on the delta's raw bits: 0 to 3 can only carry the sum above 31, 4 to 7 stand for -4 to -1. -/
theorem sum_leaves_range_iff_raw (base : BitVec 5) (delta : BitVec 3) :
    ((base.toNat : Int) + delta.toInt < 0 ∨ 31 < (base.toNat : Int) + delta.toInt) ↔
      (4 ≤ delta.toNat ∧ base.toNat + delta.toNat < 8) ∨ (delta.toNat < 4 ∧ 31 < base.toNat + delta.toNat) := by
  have := base.isLt
  have := delta.isLt
  rw [BitVec.toInt_eq_toNat_cond]
  split <;> omega

/-- R75's list is that range, written out: with the delta fixed, only its own pairs are left to compare. -/
theorem sum_leaves_range_iff_listed {b d : Nat} (hb : b < 32) (hd : d < 8) :
    (4 ≤ d ∧ b + d < 8) ∨ (d < 4 ∧ 31 < b + d) ↔
      (b, d) ∈ [(0, 4), (0, 5), (0, 6), (0, 7), (1, 4), (1, 5), (1, 6), (2, 4), (2, 5), (3, 4),
        (29, 3), (30, 2), (30, 3), (31, 1), (31, 2), (31, 3)] := by
  simp only [List.mem_cons, Prod.mk.injEq, List.not_mem_nil, or_false]
  interval_cases d <;> simp <;> omega

/-- Settles O4: the bit test is the definition, the range test is R74's three ranges, and the list is that range pair by pair. -/
theorem overflowTestFiresOnSixteenPairs : Obligations.OverflowTestFiresOnSixteenPairs := by
  unfold Obligations.OverflowTestFiresOnSixteenPairs
  intro base delta
  refine ⟨ovf5_iff_topBits_ne_zero base delta, ovf5_iff_sum_leaves_range base delta, ?_⟩
  rw [ovf5_iff_sum_leaves_range, sum_leaves_range_iff_raw]
  exact sum_leaves_range_iff_listed base.isLt delta.isLt

/-! ### Clamping -/

theorem clamp255_toNat (s : Int) : ((clamp255 s).toNat : Int) = max 0 (min 255 s) := by
  unfold clamp255
  split
  case isTrue negative =>
    change (0 : Int) = _
    omega
  case isFalse nonneg =>
    split
    case isTrue high =>
      change (255 : Int) = _
      omega
    case isFalse notHigh =>
      rw [BitVec.toNat_ofNat]
      omega

theorem clampAdd_toNat (base : Channel) (delta : Int) :
    ((clampAdd base delta).toNat : Int) = max 0 (min 255 ((base.toNat : Int) + delta)) :=
  clamp255_toNat _

/-- Settles O5: saturation by the three ranges of `clamp255`; `CLAMPADD` clamps the exact sum, and `CLAMPADD3` is R76's triple. -/
theorem clampAddSaturates : Obligations.ClampAddSaturates := by
  unfold Obligations.ClampAddSaturates
  exact ⟨clamp255_toNat, clampAdd_toNat, fun _ _ => rfl⟩

end Sys2Proof.Machine
end

section
/-! # Proofs of 45_assembler.md: the resolved size (R132 to R134), the capacity check of `START` (R137), the short read (R142), the
emitted pixel (R145) -/

namespace Sys2Proof.Machine

/-! ### The square root of R132 -/

/-- The bits not yet tried always reach past the root, so after the last one the root is exact. -/
theorem isqrtGo_spec {n k r : Nat} (lower : r * r ≤ n) (upper : n < (r + 2 ^ k) * (r + 2 ^ k)) :
    isqrtGo n k r * isqrtGo n k r ≤ n ∧ n < (isqrtGo n k r + 1) * (isqrtGo n k r + 1) := by
  induction k generalizing r with
  | zero => exact ⟨lower, upper⟩
  | succ k ih =>
    rw [isqrtGo]
    split
    case isTrue fits =>
      refine ih fits ?_
      rwa [Nat.add_assoc, ← Nat.two_mul, ← Nat.pow_succ']
    case isFalse tooBig => exact ih lower (Nat.lt_of_not_le tooBig)

/-- `isqrt` is the exact root: its first trial bit squared is above `n`. -/
theorem isqrt_spec (n : Nat) : isqrt n * isqrt n ≤ n ∧ n < (isqrt n + 1) * (isqrt n + 1) := by
  refine isqrtGo_spec (Nat.zero_le n) ?_
  rw [Nat.zero_add, ← pow_add]
  exact Nat.lt_log2_self.trans_le (Nat.pow_le_pow_right (by decide) (by omega))

theorem isqrt_eq_zero_iff (n : Nat) : isqrt n = 0 ↔ n = 0 := by
  obtain ⟨lower, upper⟩ := isqrt_spec n
  constructor
  · intro root
    rw [root] at upper
    omega
  · rintro rfl
    exact mul_self_eq_zero.mp (Nat.le_zero.mp lower)

/-! ### The resolved size -/

theorem resolveWidth_of_requested {reqw : Nat} (len : Nat) (h : reqw ≠ 0) : resolveWidth reqw len = reqw := if_neg h

theorem resolveWidth_zero (len : Nat) : resolveWidth 0 len = 4 * isqrt (len / 8) := rfl

theorem resolveHeight_of_requested {reqh : Nat} (w len : Nat) (h : reqh ≠ 0) : resolveHeight reqh w len = some reqh :=
  if_neg h

theorem resolveHeight_zero_zero (len : Nat) : resolveHeight 0 0 len = none := rfl

theorem resolveHeight_zero {w : Nat} (len : Nat) (h : ceil4 w ≠ 0) :
    resolveHeight 0 w len = some (4 * (len / 8 / ceil4 w)) := if_neg h

theorem ceil4_eq_zero_iff (n : Nat) : ceil4 n = 0 ↔ n = 0 := by
  unfold ceil4
  omega

theorem resolveHeight_eq_none_iff (reqh w len : Nat) : resolveHeight reqh w len = none ↔ reqh = 0 ∧ w = 0 := by
  by_cases requested : reqh = 0
  · subst requested
    by_cases noWidth : w = 0
    · simp [noWidth, resolveHeight_zero_zero]
    · simp [noWidth, resolveHeight_zero len (mt (ceil4_eq_zero_iff w).mp noWidth)]
  · simp [requested, resolveHeight_of_requested w len requested]

theorem resolveWidth_eq_zero_iff (reqw len : Nat) : resolveWidth reqw len = 0 ↔ reqw = 0 ∧ len < 8 := by
  by_cases requested : reqw = 0
  · subst requested
    have root := isqrt_eq_zero_iff (len / 8)
    rw [resolveWidth_zero]
    omega
  · simp [requested, resolveWidth_of_requested len requested]

/-- An inferred width of `2^32` takes `2^60` blocks. -/
theorem declared_of_wide {reqw len : Nat} (small : reqw < 2 ^ 32) (wide : 2 ^ 32 ≤ resolveWidth reqw len) :
    reqw = 0 ∧ 2 ^ 33 ≤ len := by
  by_cases requested : reqw = 0
  · subst requested
    rw [resolveWidth_zero] at wide
    have root : 2 ^ 30 ≤ isqrt (len / 8) := by omega
    have blocks : 2 ^ 30 * 2 ^ 30 ≤ len / 8 := (Nat.mul_le_mul root root).trans (isqrt_spec (len / 8)).1
    omega
  · rw [resolveWidth_of_requested len requested] at wide
    omega

/-- An inferred height of `2^32` takes `2^30` blocks. -/
theorem declared_of_tall {reqh w len h : Nat} (small : reqh < 2 ^ 32) (asked : resolveHeight reqh w len = some h)
    (tall : 2 ^ 32 ≤ h) : reqh = 0 ∧ 2 ^ 33 ≤ len := by
  by_cases requested : reqh = 0
  · subst requested
    have width : ceil4 w ≠ 0 := by
      intro noWidth
      rw [(ceil4_eq_zero_iff w).mp noWidth, resolveHeight_zero_zero] at asked
      cases asked
    rw [resolveHeight_zero len width, Option.some.injEq] at asked
    have blocks : len / 8 / ceil4 w ≤ len / 8 := Nat.div_le_self _ _
    omega
  · rw [resolveHeight_of_requested w len requested, Option.some.injEq] at asked
    omega

theorem askedHeight_eq_none_iff (s : State) :
    s.askedHeight = none ↔ s.reqWidth = 0 ∧ s.reqHeight = 0 ∧ s.streamLen.toNat < 8 := by
  have zero (v : BitVec 32) : v.toNat = 0 ↔ v = 0 := BitVec.toNat_eq (y := 0#32) |>.symm
  rw [State.askedHeight, resolveHeight_eq_none_iff, State.askedWidth, resolveWidth_eq_zero_iff, zero, zero]
  exact and_left_comm

/-! ### What `START` can answer -/

theorem start_accepted (g : BitVec 31) {s : State} (accepted : s.status ≠ .busy) :
    exec (.start g) s = .next (resolveAndCheck (startEntry s)) :=
  congrArg _ (if_neg accepted)

theorem start_ignored (g : BitVec 31) {s : State} (busy : s.status = .busy) : exec (.start g) s = .next s :=
  congrArg _ (if_pos busy)

/-- A size that can be published is asked for: the inference of R133 divides by no 0, and both numbers fit 32 bits (R134). -/
def State.SizeFits (s : State) : Prop := ∃ h, s.askedHeight = some h ∧ s.askedWidth < 2 ^ 32 ∧ h < 2 ^ 32

theorem start_unfit (g : BitVec 31) {s : State} (accepted : s.status ≠ .busy) (unfit : ¬ s.SizeFits) :
    exec (.start g) s = .next (raise (startEntry s) .invalidResolution 0 s.streamLen.toNat) := by
  rw [start_accepted g accepted]
  obtain ⟨-, raised⟩ | ⟨w, h, rfl, asked, ⟨-, raised⟩ | ⟨fits, -⟩⟩ := resolveAndCheck_cases (startEntry s)
  · rw [raised, startEntry_streamLen]
  · rw [raised, startEntry_streamLen]
  · exact absurd ⟨h, asked, fits⟩ unfit

/-- The outcomes of `START` with a size that fits 32 bits, in the order of R136; the size is published in each. -/
theorem start_fitting_cases (g : BitVec 31) {s : State} {h : Nat} (accepted : s.status ≠ .busy)
    (asked : s.askedHeight = some h) (wFits : s.askedWidth < 2 ^ 32) (hFits : h < 2 ^ 32) :
    (s.streamLen.toNat < requiredBytes s.askedWidth h ∧
      exec (.start g) s = .next (raise (publish (startEntry s) s.askedWidth h) .invalidResolution
        (requiredBytes s.askedWidth h) s.streamLen.toNat)) ∨
    requiredBytes s.askedWidth h ≤ s.streamLen.toNat ∧
      ((exceeds s.par.bandCapacity (ceil4 s.askedWidth) = true ∨
          exceeds s.par.outCapacity (s.askedWidth * h * 3) = true) ∧
        exec (.start g) s = .next (raise (publish (startEntry s) s.askedWidth h) .allocationFailure 0 0) ∨
       (exceeds s.par.bandCapacity (ceil4 s.askedWidth) = false ∧
          exceeds s.par.outCapacity (s.askedWidth * h * 3) = false) ∧
        exec (.start g) s = .next (beginTraversal (publish (startEntry s) s.askedWidth h))) := by
  simp only [start_accepted g accepted, Host.Outcome.next.injEq]
  obtain ⟨zeroDivisor, -⟩ | ⟨w, h', rfl, asked', ⟨unfit, -⟩ | ⟨-, outcome⟩⟩ := resolveAndCheck_cases (startEntry s)
  · cases asked.symm.trans zeroDivisor
  · cases asked.symm.trans asked'
    exact absurd unfit (not_or.mpr ⟨wFits.not_ge, hFits.not_ge⟩)
  · cases asked.symm.trans asked'
    exact outcome

/-- Where no size can be published `START` raises before it publishes one. -/
theorem start_unpublished (g : BitVec 31) {s : State} (accepted : s.status ≠ .busy) (unfit : ¬ s.SizeFits) :
    ∃ t, exec (.start g) s = .next t ∧ t.status = .error ∧ t.errKind = .invalidResolution ∧ t.errRequired = 0 ∧
      t.errAvailable = s.streamLen ∧ t.resWidth = 0 ∧ t.resHeight = 0 :=
  ⟨_, start_unfit g accepted unfit, by simp⟩

/-- A size that fits 32 bits is published, whatever the later checks say (R134). -/
theorem start_publishes (g : BitVec 31) {s : State} {h : Nat} (accepted : s.status ≠ .busy)
    (asked : s.askedHeight = some h) (wFits : s.askedWidth < 2 ^ 32) (hFits : h < 2 ^ 32) :
    ∃ t, exec (.start g) s = .next t ∧ t.resWidth.toNat = s.askedWidth ∧ t.resHeight.toNat = h ∧ t.w = s.askedWidth ∧
      t.h = h ∧ t.xb = ceil4 s.askedWidth ∧ t.yb = ceil4 h := by
  obtain ⟨-, ran⟩ | ⟨-, ⟨-, ran⟩ | ⟨-, ran⟩⟩ := start_fitting_cases g accepted asked wFits hFits
  · exact ⟨_, ran, by simpa using ⟨wFits, hFits⟩⟩
  · exact ⟨_, ran, by simpa using ⟨wFits, hFits⟩⟩
  · exact ⟨_, ran, by simpa using ⟨wFits, hFits⟩⟩

/-- A `START` that does not abort has a resolved size, and it is the one published. -/
theorem start_size_of_not_aborted {g : BitVec 31} {s t : State} (accepted : s.status ≠ .busy)
    (ran : exec (.start g) s = .next t) (noError : t.status ≠ .error) :
    t.w = s.askedWidth ∧ s.askedHeight = some t.h ∧ t.resWidth.toNat = t.w ∧ t.resHeight.toNat = t.h := by
  by_cases fits : s.SizeFits
  · obtain ⟨h, asked, wFits, hFits⟩ := fits
    obtain ⟨t', ran', resWidth, resHeight, width, height, -⟩ := start_publishes g accepted asked wFits hFits
    cases ran.symm.trans ran'
    rw [width, height]
    exact ⟨rfl, asked, resWidth, resHeight⟩
  · cases ran.symm.trans (start_unfit g accepted fits)
    exact absurd rfl noError

/-- An accepted `START` leaves nothing in `OUT` (R131; log entry 4). -/
theorem start_out {g : BitVec 31} {s t : State} (accepted : s.status ≠ .busy) (ran : exec (.start g) s = .next t) :
    t.out = [] := by
  by_cases fits : s.SizeFits
  · obtain ⟨h, asked, wFits, hFits⟩ := fits
    obtain ⟨-, ran'⟩ | ⟨-, ⟨-, ran'⟩ | ⟨-, ran'⟩⟩ := start_fitting_cases g accepted asked wFits hFits
    · cases ran.symm.trans ran'
      rfl
    · cases ran.symm.trans ran'
      rfl
    · cases ran.symm.trans ran'
      simp
  · cases ran.symm.trans (start_unfit g accepted fits)
    rfl

/-- Settles O26: the requested width or the exact root, and a decode that `START` lets begin has that width. -/
theorem widthInferenceIsExactRoot : Obligations.WidthInferenceIsExactRoot := by
  unfold Obligations.WidthInferenceIsExactRoot
  refine ⟨fun reqw len => ⟨resolveWidth_of_requested len, ?_⟩, fun g s t accepted ran noError => ?_⟩
  · rintro rfl
    obtain ⟨lower, upper⟩ := isqrt_spec (len / 8)
    exact ⟨isqrt (len / 8), lower, upper, resolveWidth_zero len⟩
  · obtain ⟨width, -, published, -⟩ := start_size_of_not_aborted accepted ran noError
    exact ⟨width, published⟩

/-- Settles O27: the divisor is 0 for no width only, and that is nothing requested and no whole block declared. -/
theorem heightInferenceAndZeroWidth : Obligations.HeightInferenceAndZeroWidth := by
  unfold Obligations.HeightInferenceAndZeroWidth
  refine ⟨fun reqh w len => ⟨resolveHeight_of_requested w len, ?_⟩, askedHeight_eq_none_iff,
    fun g s accepted none => start_unpublished g accepted ?_, fun g s t accepted ran noError => ?_⟩
  · rintro rfl width
    exact resolveHeight_zero len width
  · rintro ⟨h, asked, -⟩
    cases none.symm.trans asked
  · obtain ⟨width, asked, -, published⟩ := start_size_of_not_aborted accepted ran noError
    rw [width]
    exact ⟨asked, published⟩

/-- Settles O29: only an inferred dimension outgrows 32 bits, and only with `2^30` blocks or more declared. -/
theorem startPublishesResolvedSize : Obligations.StartPublishesResolvedSize := by
  unfold Obligations.StartPublishesResolvedSize
  intro g s h accepted asked
  refine ⟨fun unfit => ?_, start_publishes g accepted asked⟩
  have inferred : (s.reqWidth.toNat = 0 ∨ s.reqHeight.toNat = 0) ∧ 2 ^ 33 ≤ s.streamLen.toNat := by
    rcases unfit with wide | tall
    · exact (declared_of_wide s.reqWidth.isLt wide).imp_left .inl
    · exact (declared_of_tall s.reqHeight.isLt asked tall).imp_left .inr
  refine ⟨inferred.1.imp BitVec.eq_of_toNat_eq BitVec.eq_of_toNat_eq, inferred.2, start_unpublished g accepted ?_⟩
  rintro ⟨h', asked', wFits, hFits⟩
  cases asked.symm.trans asked'
  omega

/-! ### The capacity check of R137 -/

theorem exceeds_eq_true_iff (cap : Option Nat) (n : Nat) : exceeds cap n = true ↔ ∃ c, cap = some c ∧ c < n := by
  cases cap <;> simp [exceeds]

/-- `AllocationFailure` comes from an exceeded capacity only. -/
theorem exceeds_of_allocationFailure {g : BitVec 31} {s t : State} (accepted : s.status ≠ .busy)
    (ran : exec (.start g) s = .next t) (failed : t.errKind = .allocationFailure) :
    ∃ n, exceeds s.par.bandCapacity n = true ∨ exceeds s.par.outCapacity n = true := by
  by_cases fits : s.SizeFits
  · obtain ⟨h, asked, wFits, hFits⟩ := fits
    obtain ⟨-, ran'⟩ | ⟨-, ⟨excess, -⟩ | ⟨-, ran'⟩⟩ := start_fitting_cases g accepted asked wFits hFits
    · cases ran.symm.trans ran'
      cases failed
    · exact excess.elim (fun band => ⟨_, .inl band⟩) fun out => ⟨_, .inr out⟩
    · cases ran.symm.trans ran'
      simp at failed
  · cases ran.symm.trans (start_unfit g accepted fits)
    cases failed

/-- Settles O31: past the length check an exceeded capacity leaves `AllocationFailure` as the only outcome; an unbounded capacity is
never exceeded. -/
theorem startChecksCapacities : Obligations.StartChecksCapacities := by
  unfold Obligations.StartChecksCapacities
  constructor
  · intro g s h accepted asked wFits hFits declared excess
    rw [← exceeds_eq_true_iff, ← exceeds_eq_true_iff] at excess
    obtain ⟨t, ran, resWidth, resHeight, -⟩ := start_publishes g accepted asked wFits hFits
    obtain ⟨short, -⟩ | ⟨-, ⟨-, ran'⟩ | ⟨⟨band, out⟩, -⟩⟩ := start_fitting_cases g accepted asked wFits hFits
    · exact absurd short declared.not_gt
    · cases ran.symm.trans ran'
      refine ⟨_, ran, rfl, rfl, rfl, rfl, resWidth, resHeight, rfl, fun a b listed => ?_⟩
      rw [start_out accepted ran] at listed
      cases listed
    · exact absurd excess (not_or.mpr ⟨ne_true_of_eq_false band, ne_true_of_eq_false out⟩)
  · intro g s t accepted noBand noOut ran failed
    obtain ⟨n, excess⟩ := exceeds_of_allocationFailure accepted ran failed
    rw [noBand, noOut] at excess
    simp [exceeds] at excess

/-! ### How much of a gapless stream a read returns -/

theorem Store.read_isSome_iff {α : Type} (m : Store α) (a : Nat) :
    (Store.read m a).isSome ↔ a ∈ m.map Prod.fst := by
  induction m with
  | nil => simp
  | cons c m ih =>
    obtain ⟨k, v⟩ := c
    rw [Store.read_cons, List.map_cons, List.mem_cons, ← ih]
    by_cases h : a = k <;> simp [h]

/-- A gapless space holds the bytes below its length and no other (20_memory.md R32). -/
theorem byteAt_isSome_iff_of_gapless {m : Memory} (gapless : Gapless m) (a : Nat) :
    (byteAt m a).isSome ↔ a < m.length := by
  rw [byteAt, Store.read_isSome_iff, gapless, List.mem_range]

/-- A read of a gapless space returns what is asked for, or what is left (20_memory.md R33). -/
theorem memRead_length_of_gapless {m : Memory} (gapless : Gapless m) (addr n : Nat) :
    (memRead m addr n).length = min n (m.length - addr) := by
  induction n generalizing addr with
  | zero => simp [memRead]
  | succ n ih =>
    have inside := byteAt_isSome_iff_of_gapless gapless addr
    cases listed : byteAt m addr with
    | none =>
      rw [listed] at inside
      simp only [Option.isSome_none, Bool.false_eq_true, false_iff] at inside
      simp only [memRead, listed, List.length_nil]
      omega
    | some b =>
      rw [listed] at inside
      simp only [Option.isSome_some, true_iff] at inside
      simp only [memRead, listed, List.length_cons, ih]
      omega

/-! ### The core's turn -/

theorem issue_read {s : State} {rest : List HostOp} (turn : s.CoreTurn rest) (busy : s.status = .busy)
    (reading : s.phase = .read) : issue s = fetchBlock { s with host := rest } :=
  (issue_of_coreTurn turn).trans (coreTurn_read busy reading)

/-- A block read of fewer than 8 bytes raises `ShortRead` (R142). -/
theorem step_shortRead {s : State} {rest : List HostOp} (turn : s.CoreTurn rest) (busy : s.status = .busy)
    (reading : s.phase = .read) (short : blockOfBytes (memRead s.stream s.pos 8) = none) :
    step s = .next (raise { s with host := rest } .shortRead (s.pos + 8) (s.pos + (memRead s.stream s.pos 8).length)) := by
  refine step_of_settled ?_
  obtain ⟨w, block, -⟩ | ⟨-, fetched⟩ := fetchBlock_cases { s with host := rest }
  · cases short.symm.trans block
  · exact (issue_read turn busy reading).trans fetched

/-- A step of the emission is one pixel visit (R143, R144). -/
theorem step_visit {s : State} {rest : List HostOp} (turn : s.CoreTurn rest) (busy : s.status = .busy)
    (emitting : s.phase = .emit) : step s = .next (visitPixel { s with host := rest }) :=
  step_of_settled ((issue_of_coreTurn turn).trans (coreTurn_emit busy emitting))

/-- A step outside `BUSY` on the core's turn is the host's wait (60_exceptions.md R166). -/
theorem step_quiet {s : State} {rest : List HostOp} (turn : s.CoreTurn rest) (quiet : s.status ≠ .busy) :
    step s = .next { s with host := rest } :=
  step_of_settled ((issue_of_coreTurn turn).trans (coreTurn_quiet quiet))

/-! ### The short read -/

/-- The block of a read in the traversal ends within the blocks that `START` admitted (R135, R140). -/
theorem reading_pos_le {s : State} (reading : s.Reading) : s.pos + 8 ≤ s.xb * s.yb * 8 := by
  obtain ⟨band, block, -, -, pos, -⟩ := reading
  have place : s.bandY * s.xb + s.blockX + 1 ≤ s.xb * s.yb :=
    calc s.bandY * s.xb + s.blockX + 1 ≤ (s.bandY + 1) * s.xb := by rw [Nat.succ_mul]; omega
      _ ≤ s.yb * s.xb := Nat.mul_le_mul_right _ band
      _ = s.xb * s.yb := Nat.mul_comm _ _
  omega

/-- Settles O37: the step is the error entry; a gapless stream returns what is left of it, and in a run the whole block was
declared. -/
theorem shortReadEntersError : Obligations.ShortReadEntersError := by
  unfold Obligations.ShortReadEntersError
  intro s rest turn busy reading short
  have noBlock : blockOfBytes (memRead s.stream s.pos 8) = none := by
    rw [← Option.not_isSome_iff_eq_none, blockOfBytes_isSome_iff, decide_eq_true_iff]
    exact short.ne
  refine ⟨⟨_, step_shortRead turn busy reading noBlock, rfl⟩, fun gapless inside => ?_, fun inv => ?_⟩
  · rw [memRead_length_of_gapless gapless] at short ⊢
    omega
  · obtain ⟨gapless, configuration⟩ := inv
    rw [busy, reading] at configuration
    obtain ⟨-, -, ⟨declared, -⟩, -, place⟩ := configuration
    have wanted := reading_pos_le place
    rw [memRead_length_of_gapless gapless] at short
    exact ⟨wanted, declared, by omega⟩

/-! ### What a visit appends -/

theorem inImage_iff (s : State) : inImage s = true ↔ s.blockX * 4 + s.colK < s.w ∧ s.bandY * 4 + s.rowJ < s.h := by
  rw [inImage, Bool.and_eq_true, decide_eq_true_iff, decide_eq_true_iff]

theorem emitPixel_inside {s : State} (p : Pixel) (inside : inImage s = true) :
    emitPixel s p = afterPixel (appendPixel s p) := by
  rw [emitPixel, if_pos inside]

theorem emitPixel_out (s : State) (p : Pixel) :
    (emitPixel s p).out = if inImage s then memWrite s.out s.outp [p.r, p.g, p.b] else s.out := by
  rw [emitPixel, afterPixel_out, apply_ite State.out, appendPixel_out]

theorem visitPixel_of_stored {s : State} {d : Tile} {p : Pixel} (stored : Store.read s.band s.blockX = some d)
    (pixel : tileGet d (s.colK * 4 + s.rowJ) = some p) : visitPixel s = emitPixel s p := by
  have held : bandPixel s.band s.blockX (s.colK * 4 + s.rowJ) = some p := by
    rw [bandPixel, stored]
    exact pixel
  obtain ⟨p', held', visit⟩ | ⟨none, -⟩ := visitPixel_cases s
  · cases held.symm.trans held'
    exact visit
  · cases held.symm.trans none

/-- A visit inside the image writes one pixel at `OUTP`; any other leaves `OUT` as it is (R144, R145). -/
theorem visitPixel_out (s : State) : ∃ p : Pixel,
    (visitPixel s).out = if inImage s then memWrite s.out s.outp [p.r, p.g, p.b] else s.out := by
  obtain ⟨p, -, visit⟩ | ⟨-, visit⟩ := visitPixel_cases s
  · exact ⟨p, (congrArg State.out visit).trans (emitPixel_out s p)⟩
  · exact ⟨_, (congrArg State.out visit).trans (emitPixel_out _ _)⟩

/-- The step of a visit inside the image appends the stored pixel and moves the counters (R144, R145). -/
theorem step_visit_inside {s : State} {rest : List HostOp} {d : Tile} {p : Pixel} (turn : s.CoreTurn rest)
    (busy : s.status = .busy) (emitting : s.phase = .emit) (stored : Store.read s.band s.blockX = some d)
    (pixel : tileGet d (s.colK * 4 + s.rowJ) = some p) (inside : inImage s = true) :
    step s = .next (afterPixel (appendPixel { s with host := rest } p)) := by
  rw [step_visit turn busy emitting, visitPixel_of_stored (s := { s with host := rest }) stored pixel]
  exact congrArg _ (emitPixel_inside p inside)

/-! ### The host's moves -/

theorem issue_write {s : State} {reg : Nat} {v : BitVec 64} {rest : List HostOp} (moves : s.host = .write reg v :: rest) :
    issue s = hostWrite { s with host := rest } reg v := by
  rw [issue, moves]

theorem step_awaited {s : State} {rest : List HostOp} (moves : s.host = .awaitNotBusy :: rest) (quiet : s.status ≠ .busy) :
    step s = .next { s with host := rest } :=
  step_of_settled (by rw [issue, moves]; exact if_neg quiet)

theorem step_hostRead {s : State} {reg : Nat} {rest : List HostOp} (moves : s.host = .read reg :: rest) :
    step s = .next { s with host := rest, rdata := csrRead s reg } :=
  step_of_settled (by rw [issue, moves])

theorem step_hostReadOut {s : State} {addr : Nat} {rest : List HostOp} (moves : s.host = .readOut addr :: rest) :
    step s = hostReadOut { s with host := rest } addr :=
  step_of_settled (by rw [issue, moves])

theorem step_hostSupply {s : State} {bytes : List Byte} {rest : List HostOp} (moves : s.host = .supply bytes :: rest) :
    step s = hostSupply { s with host := rest } bytes :=
  step_of_settled (by rw [issue, moves])

theorem step_hostReset {s : State} {rest : List HostOp} (moves : s.host = .reset :: rest) :
    step s = .next (resetCore { s with host := rest }) :=
  step_of_settled (by rw [issue, moves])

/-! ### No other step writes `OUT` -/

theorem decodeBlock_ne_start (l : Layout) (w : Block) (g : BitVec 31) : decodeBlock l w ≠ .start g := by
  unfold decodeBlock
  cases modeOf l w <;> exact Instr.noConfusion

/-- Of a block instruction and the store of its block, neither writes `OUT` (R141). -/
theorem retire_exec_out {i : Instr} {s t : State} (block : ∀ g, i ≠ .start g) (ran : exec i s = .next t) :
    (retire i t).out = s.out := by
  cases i with
  | start g => exact absurd rfl (block g)
  | individual f => cases ran; exact storeBlock_out _
  | differential f => cases ran; exact storeBlock_out _
  | t f => cases ran; exact storeBlock_out _
  | h f => cases ran; exact storeBlock_out _
  | planar f => cases ran; exact storeBlock_out _

/-- A block read leaves `OUT` as it is, or unspecified where it is a short read (R141, R155). -/
theorem step_read_out {s t : State} {rest : List HostOp} (turn : s.CoreTurn rest) (busy : s.status = .busy)
    (reading : s.phase = .read) (stepped : step s = .next t) : t.out = s.out ∨ t.out = [] := by
  obtain ⟨w, -, fetched⟩ | ⟨noBlock, -⟩ := fetchBlock_cases { s with host := rest }
  · obtain ⟨u, ran⟩ := exec_completes (decodeBlock s.par.layout w)
      { s with host := rest, pos := s.pos + 8, dp := { s.dp with blk := w } }
    cases stepped.symm.trans (step_of_run ((issue_read turn busy reading).trans fetched) ran)
    have kept := retire_exec_out (decodeBlock_ne_start _ w) ran
    exact .inl kept
  · cases stepped.symm.trans (step_shortRead turn busy reading noBlock)
    exact .inr rfl

@[simp] theorem csrWrite_out (s : State) (reg : Nat) (v : BitVec 64) : (csrWrite s reg v).out = s.out := by
  unfold csrWrite
  split
  · rfl
  · split <;> rfl

/-- A host write is the command `START`, or it is over at once and has written no memory (10_state.md R15). -/
theorem hostWrite_cases (s : State) (reg : Nat) (v : BitVec 64) :
    (∃ g, hostWrite s reg v = .run (.start g) s) ∨ ∃ t, hostWrite s reg v = .settled (.next t) ∧ t.out = s.out := by
  unfold hostWrite
  by_cases ctrl : reg = 3
  · by_cases bit : (v.setWidth 32).getLsbD 0 = true
    · exact .inl ⟨(v.setWidth 32).extractLsb' 1 31, by simp only [ctrl, decode, bit, if_true]⟩
    · exact .inr ⟨s, by simp only [ctrl, decode, bit, if_true, Bool.false_eq_true, if_false], rfl⟩
  · exact .inr ⟨csrWrite s reg v, if_neg ctrl, csrWrite_out s reg v⟩

theorem step_hostWrite_out {s t : State} {reg : Nat} {v : BitVec 64} {rest : List HostOp}
    (moves : s.host = .write reg v :: rest) (stepped : step s = .next t) : t.out = s.out ∨ t.out = [] := by
  obtain ⟨g, command⟩ | ⟨u, ended, same⟩ := hostWrite_cases { s with host := rest } reg v
  · obtain ⟨u, ran⟩ := exec_completes (.start g) { s with host := rest }
    cases stepped.symm.trans (step_of_run ((issue_write moves).trans command) ran)
    by_cases busy : s.status = .busy
    · cases ran.symm.trans (start_ignored g busy)
      exact .inl rfl
    · exact .inr (start_out (s := { s with host := rest }) busy ran)
  · cases stepped.symm.trans (step_of_settled ((issue_write moves).trans ended))
    exact .inl same

theorem hostReadOut_out {s t : State} {addr : Nat} (answered : hostReadOut s addr = .next t) : t.out = s.out := by
  unfold hostReadOut at answered
  split at answered
  · split at answered
    · split at answered
      · cases answered
        rfl
      · cases answered
        rfl
    · cases answered
  · cases answered
    rfl

theorem hostSupply_out {s t : State} {bytes : List Byte} (answered : hostSupply s bytes = .next t) : t.out = s.out := by
  unfold hostSupply at answered
  split at answered
  · cases answered
  · cases answered
    rfl

/-- A move of the host that leaves the core no turn keeps `OUT`, or makes it unspecified (`START`, reset). -/
theorem step_hostMove_out {s t : State} (noTurn : ¬ ∃ rest, s.CoreTurn rest) (stepped : step s = .next t) :
    t.out = s.out ∨ t.out = [] := by
  cases moves : s.host with
  | nil => exact absurd ⟨[], .inl ⟨moves, rfl⟩⟩ noTurn
  | cons op rest =>
    cases op with
    | wait => exact absurd ⟨rest, .inr (.inl moves)⟩ noTurn
    | awaitNotBusy =>
      have quiet : s.status ≠ .busy := fun busy => noTurn ⟨_, .inr (.inr ⟨busy, rfl, rest, moves⟩)⟩
      cases stepped.symm.trans (step_awaited moves quiet)
      exact .inl rfl
    | write reg v => exact step_hostWrite_out moves stepped
    | read reg =>
      cases stepped.symm.trans (step_hostRead moves)
      exact .inl rfl
    | readOut addr => exact .inl (hostReadOut_out (s := { s with host := rest }) ((step_hostReadOut moves).symm.trans stepped))
    | supply bytes => exact .inl (hostSupply_out (s := { s with host := rest }) ((step_hostSupply moves).symm.trans stepped))
    | reset =>
      cases stepped.symm.trans (step_hostReset moves)
      exact .inr rfl

/-- A step keeps `OUT`, or makes it unspecified, or is the visit of a pixel inside the image. -/
theorem step_out_cases {s t : State} (stepped : step s = .next t) :
    (t.out = s.out ∨ t.out = []) ∨
    (∃ rest, s.CoreTurn rest) ∧ s.status = .busy ∧ s.phase = .emit ∧ inImage s = true ∧
      ∃ p : Pixel, t.out = memWrite s.out s.outp [p.r, p.g, p.b] := by
  by_cases turn : ∃ rest, s.CoreTurn rest
  · obtain ⟨rest, turn⟩ := turn
    by_cases busy : s.status = .busy
    · cases phase : s.phase with
      | read => exact .inl (step_read_out turn busy phase stepped)
      | emit =>
        cases stepped.symm.trans (step_visit turn busy phase)
        obtain ⟨p, written⟩ := visitPixel_out { s with host := rest }
        by_cases inside : inImage s = true
        · exact .inr ⟨⟨rest, turn⟩, busy, rfl, inside, p, written.trans (if_pos inside)⟩
        · exact .inl (.inl (written.trans (if_neg inside)))
    · cases stepped.symm.trans (step_quiet turn busy)
      exact .inl (.inl rfl)
  · exact .inl (step_hostMove_out turn stepped)

/-- Settles O38: the visit appends its pixel's three bytes and moves counters only; a new byte in `OUT` was written by such a visit,
at one of those three addresses. -/
theorem visitAppendsImagePixel : Obligations.VisitAppendsImagePixel := by
  unfold Obligations.VisitAppendsImagePixel
  refine ⟨fun s rest d p turn busy emitting stored pixel column row => ?_, fun s t a b stepped listed isNew => ?_⟩
  · have visit := step_visit_inside turn busy emitting stored pixel ((inImage_iff s).mpr ⟨column, row⟩)
    have written {i : Nat} (h : i < 3) := byteAt_memWrite_same s.out s.outp [p.r, p.g, p.b] h
    refine ⟨_, visit, ?_⟩
    simp only [afterPixel_out, afterPixel_outp, afterPixel_pos, afterPixel_stream, afterPixel_dp, afterPixel_w, afterPixel_h,
      afterPixel_xb, afterPixel_yb]
    exact ⟨rfl, written (i := 0) (by decide), written (i := 1) (by decide), written (i := 2) (by decide),
      fun a away => byteAt_memWrite_other s.out _ away, rfl, rfl, rfl, rfl, rfl, rfl, rfl⟩
  · obtain (same | gone) | ⟨turn, busy, emitting, inside, p, written⟩ := step_out_cases stepped
    · rw [same] at listed
      exact absurd listed isNew
    · rw [gone] at listed
      cases listed
    · obtain ⟨column, row⟩ := (inImage_iff s).mp inside
      refine ⟨turn, busy, emitting, column, row, ?_⟩
      by_contra within
      have away : a < s.outp ∨ s.outp + 3 ≤ a := by omega
      rw [written, byteAt_memWrite_other s.out [p.r, p.g, p.b] away] at listed
      exact isNew listed

end Sys2Proof.Machine
end

section
/-! # Proofs of 60_exceptions.md: `ERR_KIND = 4` is never produced (R153) -/

namespace Sys2Proof.Machine

/-! ### Everything a completed step can be -/

/-- A block instruction writes datapath registers only (41_mode_dispatch.md R93). -/
theorem exec_decodeBlock_frame {l : Layout} {w : Block} {s t : State} (ran : exec (decodeBlock l w) s = .next t) :
    t = { s with dp := t.dp } := by
  unfold decodeBlock at ran
  split at ran <;> (cases ran; rfl)

theorem retire_decodeBlock (l : Layout) (w : Block) (s : State) : retire (decodeBlock l w) s = storeBlock s := by
  unfold decodeBlock
  cases modeOf l w <;> rfl

/-- A host write of `CTRL` with bit 0 set is `START`, of the low 32 bits written (30_encoding.md R62; log entry 12). -/
theorem hostWrite_ctrl (s : State) {v : BitVec 64} (bit : v.getLsbD 0 = true) :
    hostWrite s 3 v = .run (.start ((v.setWidth 32).extractLsb' 1 31)) s := by
  simp [hostWrite, decode, bit]

/-- `CTRL` holds nothing that a write could change (10_state.md R15). -/
theorem csrWrite_ctrl (s : State) (v : BitVec 64) : csrWrite s 3 v = s := ite_self s

/-- Any other host write is a register write, and one of `CTRL` does nothing (10_state.md R15). -/
theorem hostWrite_csr (s : State) {reg : Nat} {v : BitVec 64} (other : reg ≠ 3 ∨ v.getLsbD 0 = false) :
    hostWrite s reg v = .settled (.next (csrWrite s reg v)) := by
  by_cases ctrl : reg = 3
  · subst ctrl
    have bit : v[0] = false := by simpa using other
    simp [hostWrite, decode, bit, csrWrite_ctrl]
  · exact if_neg ctrl

theorem step_start {s : State} {v : BitVec 64} {rest : List HostOp} (moves : s.host = .write 3 v :: rest)
    (bit : v.getLsbD 0 = true) (accepted : s.status ≠ .busy) :
    step s = .next (resolveAndCheck (startEntry { s with host := rest })) :=
  step_of_run ((issue_write moves).trans (hostWrite_ctrl _ bit)) (start_accepted (s := { s with host := rest }) _ accepted)

/-- A host write that is no accepted `START` is a register write; a `START` while `BUSY` writes nothing, as any register then. -/
theorem step_csrWrite {s : State} {reg : Nat} {v : BitVec 64} {rest : List HostOp} (moves : s.host = .write reg v :: rest)
    (noStart : ¬ (reg = 3 ∧ v.getLsbD 0 = true ∧ s.status ≠ .busy)) :
    step s = .next (csrWrite { s with host := rest } reg v) := by
  by_cases command : reg = 3 ∧ v.getLsbD 0 = true
  · obtain ⟨rfl, bit⟩ := command
    have busy : s.status = .busy := by_contra fun accepted => noStart ⟨rfl, bit, accepted⟩
    rw [csrWrite_ctrl]
    exact step_of_run ((issue_write moves).trans (hostWrite_ctrl _ bit)) (start_ignored (s := { s with host := rest }) _ busy)
  · rw [not_and_or, Bool.not_eq_true] at command
    exact step_of_settled ((issue_write moves).trans (hostWrite_csr _ command))

/-- The next states a step can complete with, one case for each thing that can happen, with what it takes to happen. -/
inductive State.StepsTo (s : State) : State → Prop where
  | quiet {rest : List HostOp} (turn : s.CoreTurn rest) (notBusy : s.status ≠ .busy) : s.StepsTo { s with host := rest }
  | block {rest : List HostOp} {w : Block} {u : State} (turn : s.CoreTurn rest) (busy : s.status = .busy)
      (reading : s.phase = .read) (fetched : blockOfBytes (memRead s.stream s.pos 8) = some w)
      (ran : exec (decodeBlock s.par.layout w) { s with host := rest, pos := s.pos + 8, dp := { s.dp with blk := w } } = .next u) :
      s.StepsTo (storeBlock u)
  | shortRead {rest : List HostOp} (turn : s.CoreTurn rest) (busy : s.status = .busy) (reading : s.phase = .read)
      (short : blockOfBytes (memRead s.stream s.pos 8) = none) :
      s.StepsTo (raise { s with host := rest } .shortRead (s.pos + 8) (s.pos + (memRead s.stream s.pos 8).length))
  | visit {rest : List HostOp} (turn : s.CoreTurn rest) (busy : s.status = .busy) (emitting : s.phase = .emit) :
      s.StepsTo (visitPixel { s with host := rest })
  | awaited {rest : List HostOp} (moves : s.host = .awaitNotBusy :: rest) (notBusy : s.status ≠ .busy) :
      s.StepsTo { s with host := rest }
  | start {v : BitVec 64} {rest : List HostOp} (moves : s.host = .write 3 v :: rest) (bit : v.getLsbD 0 = true)
      (accepted : s.status ≠ .busy) : s.StepsTo (resolveAndCheck (startEntry { s with host := rest }))
  | csrWrite {reg : Nat} {v : BitVec 64} {rest : List HostOp} (moves : s.host = .write reg v :: rest)
      (noStart : ¬ (reg = 3 ∧ v.getLsbD 0 = true ∧ s.status ≠ .busy)) : s.StepsTo (csrWrite { s with host := rest } reg v)
  | csrRead {reg : Nat} {rest : List HostOp} (moves : s.host = .read reg :: rest) :
      s.StepsTo { s with host := rest, rdata := csrRead s reg }
  | readOut {addr : Nat} {rest : List HostOp} {t : State} (moves : s.host = .readOut addr :: rest)
      (answered : hostReadOut { s with host := rest } addr = .next t) : s.StepsTo t
  | supply {bytes : List Byte} {rest : List HostOp} {t : State} (moves : s.host = .supply bytes :: rest)
      (answered : hostSupply { s with host := rest } bytes = .next t) : s.StepsTo t
  | reset {rest : List HostOp} (moves : s.host = .reset :: rest) : s.StepsTo (resetCore { s with host := rest })

theorem stepsTo_of_coreTurn {s t : State} {rest : List HostOp} (turn : s.CoreTurn rest) (stepped : step s = .next t) :
    s.StepsTo t := by
  by_cases busy : s.status = .busy
  · cases phase : s.phase with
    | read =>
      obtain ⟨w, fetched, run⟩ | ⟨short, -⟩ := fetchBlock_cases { s with host := rest }
      · obtain ⟨u, ran⟩ := exec_completes (decodeBlock s.par.layout w)
          { s with host := rest, pos := s.pos + 8, dp := { s.dp with blk := w } }
        cases stepped.symm.trans (step_of_run ((issue_read turn busy phase).trans run) ran)
        rw [retire_decodeBlock]
        exact .block turn busy phase fetched ran
      · cases stepped.symm.trans (step_shortRead turn busy phase short)
        exact .shortRead turn busy phase short
    | emit =>
      cases stepped.symm.trans (step_visit turn busy phase)
      exact .visit turn busy phase
  · cases stepped.symm.trans (step_quiet turn busy)
    exact .quiet turn busy

theorem stepsTo_of_step {s t : State} (stepped : step s = .next t) : s.StepsTo t := by
  cases moves : s.host with
  | nil => exact stepsTo_of_coreTurn (.inl ⟨moves, rfl⟩) stepped
  | cons op rest =>
    cases op with
    | wait => exact stepsTo_of_coreTurn (.inr (.inl moves)) stepped
    | awaitNotBusy =>
      by_cases busy : s.status = .busy
      · exact stepsTo_of_coreTurn (.inr (.inr ⟨busy, rfl, rest, moves⟩)) stepped
      · cases stepped.symm.trans (step_awaited moves busy)
        exact .awaited moves busy
    | write reg v =>
      by_cases command : reg = 3 ∧ v.getLsbD 0 = true ∧ s.status ≠ .busy
      · obtain ⟨rfl, bit, accepted⟩ := command
        cases stepped.symm.trans (step_start moves bit accepted)
        exact .start moves bit accepted
      · cases stepped.symm.trans (step_csrWrite moves command)
        exact .csrWrite moves command
    | read reg =>
      cases stepped.symm.trans (step_hostRead moves)
      exact .csrRead moves
    | readOut addr => exact .readOut moves ((step_hostReadOut moves).symm.trans stepped)
    | supply bytes => exact .supply moves ((step_hostSupply moves).symm.trans stepped)
    | reset =>
      cases stepped.symm.trans (step_hostReset moves)
      exact .reset moves

/-! ### What becomes of `ERR_KIND` -/

@[simp] theorem emitPixel_errKind (s : State) (p : Pixel) : (emitPixel s p).errKind = s.errKind := by
  rw [emitPixel, afterPixel_errKind, apply_ite State.errKind, appendPixel_errKind, ite_self]

@[simp] theorem visitPixel_errKind (s : State) : (visitPixel s).errKind = s.errKind := by
  obtain ⟨p, -, visit⟩ | ⟨-, visit⟩ := visitPixel_cases s
  · rw [visit, emitPixel_errKind]
  · rw [visit, emitPixel_errKind]

@[simp] theorem csrWrite_errKind (s : State) (reg : Nat) (v : BitVec 64) : (csrWrite s reg v).errKind = s.errKind := by
  unfold csrWrite
  split
  · rfl
  · split <;> rfl

/-- A host read of `OUT` changes the host's own fields only (20_memory.md R48). -/
theorem hostReadOut_frame {s t : State} {addr : Nat} (answered : hostReadOut s addr = .next t) :
    t = { s with rdata := t.rdata, freeCtr := t.freeCtr } := by
  unfold hostReadOut at answered
  split at answered
  · split at answered
    · split at answered
      · cases answered; rfl
      · cases answered; rfl
    · cases answered
  · cases answered; rfl

theorem hostSupply_frame {s t : State} {bytes : List Byte} (answered : hostSupply s bytes = .next t) :
    t = { s with stream := t.stream } := by
  unfold hostSupply at answered
  split at answered
  · cases answered
  · cases answered; rfl

/-- The kinds that the checks of an accepted `START` can leave (45_assembler.md R136). -/
theorem resolveAndCheck_errKind_cases (s : State) :
    (resolveAndCheck s).errKind = s.errKind ∨ (resolveAndCheck s).errKind = .invalidResolution ∨
      (resolveAndCheck s).errKind = .allocationFailure := by
  obtain ⟨-, outcome⟩ | ⟨w, h, -, -, ⟨-, outcome⟩ | ⟨-, ⟨-, outcome⟩ | ⟨-, ⟨-, outcome⟩ | ⟨-, outcome⟩⟩⟩⟩ := resolveAndCheck_cases s
  all_goals simp [outcome]

/-- A step keeps `ERR_KIND`, clears it, or writes one of the three kinds that are raised (R150 to R153). -/
theorem step_errKind_cases {s t : State} (stepped : step s = .next t) :
    t.errKind = s.errKind ∨ t.errKind = .none ∨ t.errKind = .shortRead ∨ t.errKind = .invalidResolution ∨
      t.errKind = .allocationFailure := by
  cases stepsTo_of_step stepped with
  | quiet => exact .inl rfl
  | block turn busy reading fetched ran =>
    have kept := congrArg State.errKind (exec_decodeBlock_frame ran)
    exact .inl ((storeBlock_errKind _).trans kept)
  | shortRead => exact .inr (.inr (.inl rfl))
  | visit => exact .inl (visitPixel_errKind _)
  | awaited => exact .inl rfl
  | start =>
    obtain cleared | raised := resolveAndCheck_errKind_cases (startEntry { s with host := _ })
    · exact .inr (.inl cleared)
    · exact .inr (.inr (.inr raised))
  | csrWrite => exact .inl (csrWrite_errKind _ _ _)
  | csrRead => exact .inl rfl
  | readOut moves answered =>
    have kept := congrArg State.errKind (hostReadOut_frame answered)
    exact .inl kept
  | supply moves answered =>
    have kept := congrArg State.errKind (hostSupply_frame answered)
    exact .inl kept
  | reset => exact .inr (.inl rfl)

/-- Settles O52: reset clears `ERR_KIND`, a block decodes by its mode whatever the layout, and no step writes a fourth kind. -/
theorem unrecognizedModeNeverProduced : Obligations.UnrecognizedModeNeverProduced := by
  unfold Obligations.UnrecognizedModeNeverProduced
  refine ⟨ErrKind.noConfusion, fun l w => ⟨decodeBlock l w, rfl⟩, fun s t absent stepped => ?_⟩
  obtain kept | written := step_errKind_cases stepped
  · rwa [kept]
  · intro present
    rw [present] at written
    simp at written

end Sys2Proof.Machine
end

section
/-! # Proofs of 70_reset_and_hazards.md: writes while `BUSY` (R177), reset in any state (R170) -/

namespace Sys2Proof.Machine

/-- While `BUSY` no register is written (R12, R13). -/
theorem csrWrite_of_busy {s : State} (busy : s.status = .busy) (reg : Nat) (v : BitVec 64) : csrWrite s reg v = s :=
  if_pos busy

/-- Settles O43: while `BUSY` no write is an accepted `START`, and a register write then writes nothing. -/
theorem writesWhileBusyAreIgnored : Obligations.WritesWhileBusyAreIgnored := by
  unfold Obligations.WritesWhileBusyAreIgnored
  intro s reg v rest moves busy
  have noStart : ¬ (reg = 3 ∧ v.getLsbD 0 = true ∧ s.status ≠ .busy) := fun ⟨_, _, accepted⟩ => accepted busy
  rw [step_csrWrite moves noStart, csrWrite_of_busy (s := { s with host := rest }) busy]

/-- Settles O46: the step is `resetCore`, whose registers are those of `State.reset`, and R28's values are known of these. -/
theorem resetAppliesInAnyState : Obligations.ResetAppliesInAnyState := by
  unfold Obligations.ResetAppliesInAnyState
  intro s rest moves
  have values := resetValues
  unfold Obligations.ResetValues at values
  refine ⟨resetCore { s with host := rest }, step_hostReset moves, ?_⟩
  simp [values]

end Sys2Proof.Machine
end

section
/-! # Proofs of 30_encoding.md: the decoder and the encoder are inverse (R52 to R56, R60, R62 to R64) -/

namespace Sys2Proof

open Machine

/-! ### What a decoded word's fields are -/

/-- Bits `lo+n-1 .. lo` of a block at their own place, every other bit 0. -/
def slice (w : Block) (lo n : Nat) : Block := place (field w lo n) lo

theorem place_field (w : Block) (lo n : Nat) : place (field w lo n) lo = slice w lo n := rfl

theorem getLsbD_slice (w : Block) (lo n i : Nat) :
    (slice w lo n).getLsbD i = (decide (i < 64) && decide (lo ≤ i) && (decide (i < lo + n) && w.getLsbD i)) := by
  rw [slice, getLsbD_place, getLsbD_field]
  by_cases above : lo ≤ i
  · have place : lo + (i - lo) = i := by omega
    have width : i - lo < n ↔ i < lo + n := by omega
    simp only [place, width]
  · simp [above]

/-- Two adjacent slices are one. -/
theorem slice_or_slice (w : Block) {hi m lo n : Nat} (adjacent : hi = lo + n) :
    slice w hi m ||| slice w lo n = slice w lo (n + m) := by
  subst adjacent
  refine block_ext fun i inside => ?_
  rw [BitVec.getLsbD_or, getLsbD_slice, getLsbD_slice, getLsbD_slice]
  cases w.getLsbD i with
  | false => simp
  | true =>
    rw [Bool.eq_iff_iff]
    simp only [Bool.and_true, Bool.or_eq_true, Bool.and_eq_true, decide_eq_true_eq]
    omega

theorem slice_all (w : Block) : slice w 0 64 = w := by
  refine block_ext fun i inside => ?_
  rw [getLsbD_slice]
  simp [inside]

/-- `DIFF` of a block is its slice at bit 33. -/
theorem slice_diffPos (w : Block) : slice w diffPos 1 = place (BitVec.ofBool (diffBit w)) diffPos := by
  rw [slice]
  congr 1
  refine BitVec.eq_of_getLsbD_eq fun i inside => ?_
  obtain rfl : i = 0 := by omega
  simp [diffBit]

theorem place_diff_of_set {w : Block} (set : diffBit w = true) : place 1#1 diffPos = slice w 33 1 := by
  have := slice_diffPos w
  rw [set] at this
  exact this.symm

theorem slice_diff_of_clear {w : Block} (clear : diffBit w = false) : slice w 33 1 = 0#64 := by
  have := slice_diffPos w
  rw [clear] at this
  exact this.trans (by decide)

/-- A block with `DIFF = 0` is put together again from its `INDIVIDUAL` fields. -/
theorem individualWord_fieldsOf {w : Block} (diff : diffBit w = false) :
    individualWord individualLayout (individualFieldsOf individualLayout w) = w := by
  have skipDiff (a b : Block) : a ||| b = a ||| slice w 33 1 ||| b := by rw [slice_diff_of_clear diff, BitVec.or_zero]
  calc individualWord individualLayout (individualFieldsOf individualLayout w)
      = slice w 34 30 ||| slice w 32 1 ||| slice w 16 16 ||| slice w 0 16 := by
        simp [individualWord, individualFieldsOf, individualLayout, idxHiPos, idxLoPos, place_field, slice_or_slice]
    _ = w := by rw [skipDiff (slice w 34 30)]; simp [slice_or_slice, slice_all]

/-- The fields of each of the four formats with `DIFF = 1`, unused bits among them, are all of the block's bits but `DIFF`. -/
theorem differentialWord_fieldsOf {w : Block} (diff : diffBit w = true) :
    differentialWord differentialLayout (differentialFieldsOf differentialLayout w) = w := by
  simp [differentialWord, differentialFieldsOf, differentialLayout, idxHiPos, idxLoPos, place_field, place_diff_of_set diff,
    slice_or_slice, slice_all]

theorem tWord_fieldsOf {w : Block} (diff : diffBit w = true) : tWord tLayout (tFieldsOf tLayout w) = w := by
  simp [tWord, tFieldsOf, tLayout, idxHiPos, idxLoPos, place_field, place_diff_of_set diff, slice_or_slice, slice_all]

theorem hWord_fieldsOf {w : Block} (diff : diffBit w = true) : hWord hLayout (hFieldsOf hLayout w) = w := by
  simp [hWord, hFieldsOf, hLayout, idxHiPos, idxLoPos, place_field, place_diff_of_set diff, slice_or_slice, slice_all]

theorem planarWord_fieldsOf {w : Block} (diff : diffBit w = true) :
    planarWord planarLayout (planarFieldsOf planarLayout w) = w := by
  simp [planarWord, planarFieldsOf, planarLayout, place_field, place_diff_of_set diff, slice_or_slice, slice_all]

/-! ### When each mode is selected -/

/-- The decision procedure of 41_mode_dispatch.md section 2, one condition for each mode. -/
theorem modeOf_iff (l : Layout) (w : Block) :
    (modeOf l w = .individual ↔ diffBit w = false) ∧
    (modeOf l w = .t ↔ diffBit w = true ∧ ovfR l.differential w = true) ∧
    (modeOf l w = .h ↔ diffBit w = true ∧ ¬ovfR l.differential w = true ∧ ovfG l.differential w = true) ∧
    (modeOf l w = .planar ↔ diffBit w = true ∧ ¬ovfR l.differential w = true ∧ ¬ovfG l.differential w = true ∧
      ovfB l.differential w = true) ∧
    (modeOf l w = .differential ↔ diffBit w = true ∧ ¬ovfR l.differential w = true ∧ ¬ovfG l.differential w = true ∧
      ¬ovfB l.differential w = true) := by
  unfold modeOf
  cases diffBit w with
  | false => simp
  | true =>
    cases ovfR l.differential w with
    | true => simp
    | false =>
      cases ovfG l.differential w with
      | true => simp
      | false => cases ovfB l.differential w <;> simp

/-- `DIFF` decides between `INDIVIDUAL` and the other four. -/
theorem diffBit_eq_true_of_modeOf {l : Layout} {w : Block} (other : modeOf l w ≠ .individual) : diffBit w = true := by
  obtain ⟨individual, -⟩ := modeOf_iff l w
  rw [← Bool.not_eq_false]
  exact mt individual.mpr other

/-- In terms of `OVFSET` (30_encoding.md R59): a byte whose upper five bits as a base and lower three as a delta overflow. -/
theorem ovf5_byte_iff_mem_ovfset (t : Byte) :
    ovf5 (t.extractLsb' 3 5) (t.extractLsb' 0 3) = true ↔
      t.toNat ∈ [0x04, 0x05, 0x06, 0x07, 0x0C, 0x0D, 0x0E, 0x14, 0x15, 0x1C, 0xEB, 0xF2, 0xF3, 0xF9, 0xFA, 0xFB] := by
  have := t.isLt
  have base : (t.extractLsb' 3 5).toNat = t.toNat / 8 := by
    rw [BitVec.extractLsb'_toNat, Nat.shiftRight_eq_div_pow]
    omega
  have delta : (t.extractLsb' 0 3).toNat = t.toNat % 8 := by
    rw [BitVec.extractLsb'_toNat, Nat.shiftRight_zero]
  rw [ovf5_iff_sum_leaves_range, sum_leaves_range_iff_raw, base, delta]
  simp only [List.mem_cons, List.not_mem_nil, or_false]
  omega

theorem extractLsb'_field (w : Block) (lo n k m : Nat) (h : k + m ≤ n) :
    (field w lo n).extractLsb' k m = field w (lo + k) m := by
  refine BitVec.eq_of_getLsbD_eq fun i inside => ?_
  have within : k + i < n := by omega
  simp [inside, within, Nat.add_assoc]

/-- Settles O7: each overflow test is the range test of its exact sum, and of a byte the membership in `OVFSET`. -/
theorem modeMapByOverflowBytes : Obligations.ModeMapByOverflowBytes := by
  unfold Obligations.ModeMapByOverflowBytes
  refine ⟨fun l w => ?_, fun w => ?_⟩
  · have modes := modeOf_iff l w
    simp only [ovfR, ovfG, ovfB, ovf5_iff_sum_leaves_range] at modes
    exact modes
  · have modes := modeOf_iff specLayout w
    have byteTest (lo : Nat) := ovf5_byte_iff_mem_ovfset (field w lo 8)
    simp only [extractLsb'_field w _ 8 3 5 (by decide), extractLsb'_field w _ 8 0 3 (by decide)] at byteTest
    have red : ovfR specLayout.differential w = true ↔ _ := byteTest 56
    have green : ovfG specLayout.differential w = true ↔ _ := byteTest 48
    have blue : ovfB specLayout.differential w = true ↔ _ := byteTest 40
    rw [red, green, blue] at modes
    exact modes

theorem wf_individual (f : IndividualFields) : (Instr.individual f).wf specLayout = true := by
  obtain ⟨individual, -⟩ := modeOf_iff specLayout (individualWord specLayout.individual f)
  exact decide_eq_true (individual.mpr (Laws.EncodedDiff.individual f))

/-! ### What a word's fields are -/

theorem individualFieldsOf_word (f : IndividualFields) :
    individualFieldsOf individualLayout (individualWord individualLayout f) = f := by
  simp [individualFieldsOf, individualWord, individualLayout, idxHiPos, idxLoPos]

theorem differentialFieldsOf_word (f : DifferentialFields) :
    differentialFieldsOf differentialLayout (differentialWord differentialLayout f) = f := by
  simp [differentialFieldsOf, differentialWord, differentialLayout, idxHiPos, idxLoPos, diffPos]

theorem tFieldsOf_word (f : TFields) : tFieldsOf tLayout (tWord tLayout f) = f := by
  simp [tFieldsOf, tWord, tLayout, idxHiPos, idxLoPos, diffPos]

theorem hFieldsOf_word (f : HFields) : hFieldsOf hLayout (hWord hLayout f) = f := by
  simp [hFieldsOf, hWord, hLayout, idxHiPos, idxLoPos, diffPos]

theorem planarFieldsOf_word (f : PlanarFields) : planarFieldsOf planarLayout (planarWord planarLayout f) = f := by
  simp [planarFieldsOf, planarWord, planarLayout, diffPos]

/-! ### Round trips -/

/-- Settles O9: decoding gives the fields of the mode selected, and these put the block together again. -/
theorem decodedBlockReencodes : Obligations.DecodedBlockReencodes := by
  unfold Obligations.DecodedBlockReencodes
  intro w
  refine ⟨decodeBlock specLayout w, rfl, ?_⟩
  have diff := diffBit_eq_true_of_modeOf (l := specLayout) (w := w)
  obtain ⟨individual, -⟩ := modeOf_iff specLayout w
  unfold decodeBlock
  cases mode : modeOf specLayout w with
  | individual =>
    have same := individualWord_fieldsOf (individual.mp mode)
    exact ⟨wf_individual _, congrArg Code.block same⟩
  | differential =>
    have same := differentialWord_fieldsOf (diff (by simp [mode]))
    exact ⟨decide_eq_true ((congrArg _ same).trans mode), congrArg Code.block same⟩
  | t =>
    have same := tWord_fieldsOf (diff (by simp [mode]))
    exact ⟨decide_eq_true ((congrArg _ same).trans mode), congrArg Code.block same⟩
  | h =>
    have same := hWord_fieldsOf (diff (by simp [mode]))
    exact ⟨decide_eq_true ((congrArg _ same).trans mode), congrArg Code.block same⟩
  | planar =>
    have same := planarWord_fieldsOf (diff (by simp [mode]))
    exact ⟨decide_eq_true ((congrArg _ same).trans mode), congrArg Code.block same⟩

theorem decodeBlock_individualWord (f : IndividualFields) :
    decodeBlock specLayout (individualWord specLayout.individual f) = .individual f := by
  rw [decodeBlock, of_decide_eq_true (wf_individual f)]
  exact congrArg Instr.individual (individualFieldsOf_word f)

theorem decodeBlock_differentialWord {f : DifferentialFields} (wf : (Instr.differential f).wf specLayout = true) :
    decodeBlock specLayout (differentialWord specLayout.differential f) = .differential f := by
  rw [decodeBlock, of_decide_eq_true wf]
  exact congrArg Instr.differential (differentialFieldsOf_word f)

theorem decodeBlock_tWord {f : TFields} (wf : (Instr.t f).wf specLayout = true) :
    decodeBlock specLayout (tWord specLayout.t f) = .t f := by
  rw [decodeBlock, of_decide_eq_true wf]
  exact congrArg Instr.t (tFieldsOf_word f)

theorem decodeBlock_hWord {f : HFields} (wf : (Instr.h f).wf specLayout = true) :
    decodeBlock specLayout (hWord specLayout.h f) = .h f := by
  rw [decodeBlock, of_decide_eq_true wf]
  exact congrArg Instr.h (hFieldsOf_word f)

theorem decodeBlock_planarWord {f : PlanarFields} (wf : (Instr.planar f).wf specLayout = true) :
    decodeBlock specLayout (planarWord specLayout.planar f) = .planar f := by
  rw [decodeBlock, of_decide_eq_true wf]
  exact congrArg Instr.planar (planarFieldsOf_word f)

/-- Settles O10: well-formed means that the mode map selects the format, whose fields are then read back from its word. -/
theorem etc1FormsRoundTrip : Obligations.Etc1FormsRoundTrip := by
  unfold Obligations.Etc1FormsRoundTrip
  exact ⟨fun f => ⟨wf_individual f, congrArg Except.ok (decodeBlock_individualWord f)⟩,
    fun f wf => congrArg Except.ok (decodeBlock_differentialWord wf)⟩

/-- Settles O11: as O10, for `T` and `H`. -/
theorem paintFormsRoundTrip : Obligations.PaintFormsRoundTrip := by
  unfold Obligations.PaintFormsRoundTrip
  exact ⟨fun f wf => congrArg Except.ok (decodeBlock_tWord wf), fun f wf => congrArg Except.ok (decodeBlock_hWord wf)⟩

/-- Settles O12: as O10, for `PLANAR`. -/
theorem planarFormRoundTrips : Obligations.PlanarFormRoundTrips := by
  unfold Obligations.PlanarFormRoundTrips
  exact fun f wf => congrArg Except.ok (decodeBlock_planarWord wf)

/-! ### `CTRL` values -/

theorem decode_ctrl_of_set (l : Layout) {v : BitVec 32} (set : v.getLsbD 0 = true) :
    decode l (.ctrl v) = .ok (.start (v.extractLsb' 1 31)) := if_pos set

theorem decode_ctrl_of_clear (l : Layout) {v : BitVec 32} (clear : v.getLsbD 0 = false) :
    decode l (.ctrl v) = .error .startBitClear := if_neg (ne_true_of_eq_false clear)

/-- Bits 31:1 and a set bit 0 are the whole of the value. -/
theorem ctrl_of_set {v : BitVec 32} (set : v.getLsbD 0 = true) : v.extractLsb' 1 31 ++ (1 : BitVec 1) = v := by
  refine BitVec.eq_of_getLsbD_eq fun i inside => ?_
  rw [BitVec.getLsbD_append]
  cases i with
  | zero => simpa using set.symm
  | succ i =>
    have below : i < 31 := by omega
    simp [below, Nat.add_comm 1 i]

theorem startWord_getLsbD_zero (ignored : BitVec 31) : (ignored ++ (1 : BitVec 1)).getLsbD 0 = true :=
  Laws.EncodedDiff.start ignored

theorem startWord_ignored (ignored : BitVec 31) : (ignored ++ (1 : BitVec 1)).extractLsb' 1 31 = ignored := by
  refine BitVec.eq_of_getLsbD_eq fun i inside => ?_
  rw [BitVec.getLsbD_extractLsb', BitVec.getLsbD_append]
  simp [inside]

/-- Settles O13: bit 0 is the test, and with bits 31:1 it is all of the value. -/
theorem startCommandRoundTrips : Obligations.StartCommandRoundTrips := by
  unfold Obligations.StartCommandRoundTrips
  refine fun l => ⟨fun v => ?_, fun v i decoded => ?_, fun ignored => ?_⟩
  · cases bit : v.getLsbD 0 with
    | false => simp [decode_ctrl_of_clear l bit]
    | true => simp [decode_ctrl_of_set l bit]
  · cases bit : v.getLsbD 0 with
    | false => cases decoded.symm.trans (decode_ctrl_of_clear l bit)
    | true =>
      cases decoded.symm.trans (decode_ctrl_of_set l bit)
      exact ⟨rfl, congrArg Code.ctrl (ctrl_of_set bit)⟩
  · rw [encode, decode_ctrl_of_set l (startWord_getLsbD_zero ignored), startWord_ignored]

/-! ### The unused bits (R64) -/

/-- Three free bits above a base's two and one above a delta's two can always push the sum out of range: below 0 where the two
pieces add up to less than 4, above 31 elsewhere. -/
theorem exists_unused_overflow (a b : BitVec 2) : ∃ (u : BitVec 3) (v : BitVec 1), ovf5 (u ++ a) (v ++ b) = true := by
  revert a b
  decide

/-- One free bit above a base's four can always keep the sum in range: 1 for a negative delta, 0 for any other. -/
theorem exists_unused_inRange (a : BitVec 4) (b : BitVec 3) : ∃ u : BitVec 1, ¬ovf5 (u ++ a) b = true := by
  revert a b
  decide

theorem field_eq_append (w : Block) (lo m n : Nat) : field w lo (m + n) = field w (lo + n) m ++ field w lo n := by
  refine BitVec.eq_of_getLsbD_eq fun i inside => ?_
  rw [BitVec.getLsbD_append, getLsbD_field, getLsbD_field, getLsbD_field]
  by_cases low : i < n
  · simp [inside, low]
  · have high : i - n < m := by omega
    have place : lo + n + (i - n) = lo + i := by omega
    simp [inside, low, high, place]

theorem wf_t {f : TFields} (red : ovfR differentialLayout (tWord tLayout f) = true) : (Instr.t f).wf specLayout = true := by
  obtain ⟨-, t, -⟩ := modeOf_iff specLayout (tWord specLayout.t f)
  exact decide_eq_true (t.mpr ⟨Laws.EncodedDiff.t f, red⟩)

theorem wf_h {f : HFields} (red : ¬ovfR differentialLayout (hWord hLayout f) = true)
    (green : ovfG differentialLayout (hWord hLayout f) = true) : (Instr.h f).wf specLayout = true := by
  obtain ⟨-, -, h, -⟩ := modeOf_iff specLayout (hWord specLayout.h f)
  exact decide_eq_true (h.mpr ⟨Laws.EncodedDiff.h f, red, green⟩)

theorem wf_planar {f : PlanarFields} (red : ¬ovfR differentialLayout (planarWord planarLayout f) = true)
    (green : ¬ovfG differentialLayout (planarWord planarLayout f) = true)
    (blue : ovfB differentialLayout (planarWord planarLayout f) = true) : (Instr.planar f).wf specLayout = true := by
  obtain ⟨-, -, -, planar, -⟩ := modeOf_iff specLayout (planarWord specLayout.planar f)
  exact decide_eq_true (planar.mpr ⟨Laws.EncodedDiff.planar f, red, green, blue⟩)

theorem ovfR_of_tFields {w : Block} {f : TFields} (h : tFieldsOf tLayout w = f) :
    ovfR differentialLayout w = ovf5 (f.u63 ++ f.r0a) (f.u58 ++ f.r0b) := by
  subst h
  exact congrArg₂ ovf5 (field_eq_append w 59 3 2) (field_eq_append w 56 1 2)

theorem ovfR_of_hFields {w : Block} {f : HFields} (h : hFieldsOf hLayout w = f) :
    ovfR differentialLayout w = ovf5 (f.u63 ++ f.r0) f.g0a := by
  subst h
  exact congrArg₂ ovf5 (field_eq_append w 59 1 4) rfl

theorem ovfG_of_hFields {w : Block} {f : HFields} (h : hFieldsOf hLayout w = f) :
    ovfG differentialLayout w = ovf5 (f.u55 ++ (f.g0b ++ f.b0a)) (f.u50 ++ f.b0b.extractLsb' 1 2) := by
  subst h
  have low : field w 51 2 = field w 52 1 ++ field w 51 1 := field_eq_append w 51 1 1
  have high : field w 48 2 = (field w 47 3).extractLsb' 1 2 := (extractLsb'_field w 47 3 1 2 (by decide)).symm
  refine congrArg₂ ovf5 ((field_eq_append w 51 3 2).trans ?_) ((field_eq_append w 48 1 2).trans ?_)
  · rw [low]; rfl
  · rw [high]; rfl

theorem ovfR_of_planarFields {w : Block} {f : PlanarFields} (h : planarFieldsOf planarLayout w = f) :
    ovfR differentialLayout w = ovf5 (f.u63 ++ f.ro.extractLsb' 2 4) (f.ro.extractLsb' 0 2 ++ f.goa) := by
  subst h
  have high : field w 59 4 = (field w 57 6).extractLsb' 2 4 := (extractLsb'_field w 57 6 2 4 (by decide)).symm
  have low : field w 57 2 = (field w 57 6).extractLsb' 0 2 := (extractLsb'_field w 57 6 0 2 (by decide)).symm
  refine congrArg₂ ovf5 ((field_eq_append w 59 1 4).trans ?_) ((field_eq_append w 56 2 1).trans ?_)
  · rw [high]; rfl
  · rw [low]; rfl

theorem ovfG_of_planarFields {w : Block} {f : PlanarFields} (h : planarFieldsOf planarLayout w = f) :
    ovfG differentialLayout w = ovf5 (f.u55 ++ f.gob.extractLsb' 2 4) (f.gob.extractLsb' 0 2 ++ f.boa) := by
  subst h
  have high : field w 51 4 = (field w 49 6).extractLsb' 2 4 := (extractLsb'_field w 49 6 2 4 (by decide)).symm
  have low : field w 49 2 = (field w 49 6).extractLsb' 0 2 := (extractLsb'_field w 49 6 0 2 (by decide)).symm
  refine congrArg₂ ovf5 ((field_eq_append w 51 1 4).trans ?_) ((field_eq_append w 48 2 1).trans ?_)
  · rw [high]; rfl
  · rw [low]; rfl

theorem ovfB_of_planarFields {w : Block} {f : PlanarFields} (h : planarFieldsOf planarLayout w = f) :
    ovfB differentialLayout w = ovf5 (f.u47 ++ f.bob) (f.u42 ++ f.boc.extractLsb' 1 2) := by
  subst h
  have high : field w 40 2 = (field w 39 3).extractLsb' 1 2 := (extractLsb'_field w 39 3 1 2 (by decide)).symm
  refine congrArg₂ ovf5 (field_eq_append w 43 3 2) ((field_eq_append w 40 1 2).trans ?_)
  rw [high]; rfl

/-- Settles O14: the unused bits lie above the bases and deltas that the mode map tests, and can make each test come out either way
as the format needs it. -/
theorem unusedBitsReachEveryField : Obligations.UnusedBitsReachEveryField := by
  unfold Obligations.UnusedBitsReachEveryField
  refine ⟨fun f => ?_, fun f => ?_, fun f => ?_⟩
  · obtain ⟨u63, u58, red⟩ := exists_unused_overflow f.r0a f.r0b
    exact ⟨u63, u58, wf_t ((ovfR_of_tFields (tFieldsOf_word _)).trans red)⟩
  · obtain ⟨u63, red⟩ := exists_unused_inRange f.r0 f.g0a
    obtain ⟨u55, u50, green⟩ := exists_unused_overflow (f.g0b ++ f.b0a) (f.b0b.extractLsb' 1 2)
    exact ⟨u63, u55, u50, wf_h (ne_of_eq_of_ne (ovfR_of_hFields (hFieldsOf_word _)) red)
      ((ovfG_of_hFields (hFieldsOf_word _)).trans green)⟩
  · obtain ⟨u63, red⟩ := exists_unused_inRange (f.ro.extractLsb' 2 4) (f.ro.extractLsb' 0 2 ++ f.goa)
    obtain ⟨u55, green⟩ := exists_unused_inRange (f.gob.extractLsb' 2 4) (f.gob.extractLsb' 0 2 ++ f.boa)
    obtain ⟨u47, u42, blue⟩ := exists_unused_overflow f.bob (f.boc.extractLsb' 1 2)
    exact ⟨u63, u55, u47, u42, wf_planar (ne_of_eq_of_ne (ovfR_of_planarFields (planarFieldsOf_word _)) red)
      (ne_of_eq_of_ne (ovfG_of_planarFields (planarFieldsOf_word _)) green)
      ((ovfB_of_planarFields (planarFieldsOf_word _)).trans blue)⟩

/-- Settles O8: each word is computed through the decoder. -/
theorem sampleWordsDecode : Obligations.SampleWordsDecode := by
  unfold Obligations.SampleWordsDecode
  decide +kernel

end Sys2Proof
end

section
/-! # Proofs of 40_colormath.md to 44_planar.md: monotone colour arithmetic (R79), and what the five block instructions compute
(R88 to R93, R101 to R125) -/

namespace Sys2Proof.Machine

/-! ### Monotony -/

/-- The upper part decides the order of two appended words. -/
theorem append_lt_append {n m : Nat} {u v : BitVec n} (x y : BitVec m) (less : u < v) : u ++ x < v ++ y := by
  by_contra notLess
  have shifted : (v ++ y).toNat >>> m ≤ (u ++ x).toNat >>> m := by
    rw [Nat.shiftRight_eq_div_pow, Nat.shiftRight_eq_div_pow]
    exact Nat.div_le_div_right (Nat.le_of_not_lt notLess)
  rw [append_toNat_shiftRight, append_toNat_shiftRight] at shifted
  exact absurd less (Nat.not_lt.mpr shifted)

/-- Settles O2: an extension appends below its value, and saturation keeps the order of the exact sums. -/
theorem colorMathIsMonotone : Obligations.ColorMathIsMonotone := by
  unfold Obligations.ColorMathIsMonotone
  refine ⟨fun _ _ => append_lt_append _ _, fun _ _ => append_lt_append _ _, fun _ _ => append_lt_append _ _,
    fun _ _ => append_lt_append _ _, fun a b c d base delta => ?_⟩
  have base' : a.toNat ≤ b.toNat := base
  have low := clampAdd_toNat a c
  have high := clampAdd_toNat b d
  refine BitVec.le_def.mpr ?_
  omega

/-! ### Appended pieces as numbers -/

theorem append_toNat {n m : Nat} (v : BitVec n) (w : BitVec m) : (v ++ w).toNat = v.toNat * 2 ^ m + w.toNat := by
  rw [BitVec.toNat_append, ← Nat.shiftLeft_add_eq_or_of_lt w.isLt, Nat.shiftLeft_eq]

theorem pixelIndex_toNat (hi lo : BitVec 16) (i : Nat) :
    (pixelIndex hi lo i).toNat = 2 * (hi.getLsbD i).toNat + (lo.getLsbD i).toNat := by
  rw [pixelIndex, append_toNat, BitVec.toNat_ofBool, BitVec.toNat_ofBool]
  omega

theorem packRgb_toNat (p : Pixel) : (packRgb p).toNat = p.r.toNat * 65536 + p.g.toNat * 256 + p.b.toNat := by
  rw [packRgb, append_toNat, append_toNat]
  omega

theorem orderBit_toNat (p0 p1 : Pixel) : (orderBit p0 p1).toNat =
    if p1.r.toNat * 65536 + p1.g.toNat * 256 + p1.b.toNat ≤ p0.r.toNat * 65536 + p0.g.toNat * 256 + p0.b.toNat
    then 1 else 0 := by
  simp only [orderBit, BitVec.le_def, packRgb_toNat]
  split <;> rfl

/-- Settles O19: the extended colours are 17 times the stored ones, and a packed triple of digits compares digit by digit. -/
theorem orderingBitAgreesOnFourBits : Obligations.OrderingBitAgreesOnFourBits := by
  unfold Obligations.OrderingBitAgreesOnFourBits
  intro r0 g0 b0 r1 g1 b1
  rw [← BitVec.toNat_inj, orderBit_toNat]
  simp only [ext4_toNat_eq_mul]
  have := r0.isLt; have := g0.isLt; have := b0.isLt; have := r1.isLt; have := g1.isLt; have := b1.isLt
  change _ = 1 ↔ _
  split <;> omega

/-! ### Sub-blocks and the ETC1 family -/

/-- Sub-block 1 is the right half unflipped and the lower half flipped (R102). -/
theorem subblock_iff (flip : BitVec 1) {i : Nat} (h : i < 16) :
    subblock flip i = true ↔ if flip = 0 then 8 ≤ i else 2 ≤ i % 4 := by
  unfold subblock
  split
  · rw [Nat.testBit_eq_decide_div_mod_eq, decide_eq_true_iff]
    omega
  · rw [Nat.testBit_eq_decide_div_mod_eq, decide_eq_true_iff]
    omega

/-- Settles O15: the two planes' bits are appended, and each half is where its bit of the position is 0. -/
theorem pixelIndexAndSubblock : Obligations.PixelIndexAndSubblock := by
  unfold Obligations.PixelIndexAndSubblock
  refine ⟨pixelIndex_toNat, fun i h => ?_⟩
  rw [← Bool.not_eq_true, ← Bool.not_eq_true, subblock_iff 0 h, subblock_iff 1 h]
  simp only [List.mem_cons, List.not_mem_nil, or_false]
  constructor
  · rw [if_true]
    omega
  · rw [if_neg (by decide)]
    omega

/-- R103: the colour of the position's sub-block plus the delta its selector and PixelIndex look up. -/
theorem tileGet_reconEtc1 (cw : CodewordTable) (base0 base1 : Pixel) (ts0 ts1 : BitVec 3) (flip : BitVec 1)
    (idxHi idxLo : BitVec 16) {i : Nat} (h : i < 16) :
    tileGet (reconEtc1 cw base0 base1 ts0 ts1 flip idxHi idxLo) i = some
      (if (if flip = 0 then 8 ≤ i else 2 ≤ i % 4) then clampAdd3 base1 (cwGet cw ts1 (pixelIndex idxHi idxLo i))
        else clampAdd3 base0 (cwGet cw ts0 (pixelIndex idxHi idxLo i))) := by
  rw [reconEtc1, tileGet_tileOf _ h, ← if_congr (subblock_iff flip h) rfl rfl]
  cases subblock flip i <;> rfl

/-- Settles O16: the registers are those `writeEtc1` is given, and the pixels are `RECON_ETC1`'s. -/
theorem etc1BlocksReconstruct : Obligations.Etc1BlocksReconstruct := by
  unfold Obligations.Etc1BlocksReconstruct
  exact ⟨fun f s => ⟨_, rfl, rfl, rfl, rfl, rfl, rfl, rfl, fun i h => tileGet_reconEtc1 _ _ _ _ _ _ _ _ h⟩,
    fun f s => ⟨_, rfl, rfl, rfl, rfl, rfl, rfl, rfl, fun i h => tileGet_reconEtc1 _ _ _ _ _ _ _ _ h⟩⟩

/-- Without overflow the low five bits are the exact sum (R74, R89). -/
theorem deltaChannel_toNat {base : BitVec 5} {delta : BitVec 3} (fits : ¬ ovf5 base delta = true) :
    ((deltaChannel base delta).toNat : Int) = base.toNat + delta.toInt := by
  rw [ovf5_iff_sum_leaves_range] at fits
  have sum := adds3to5_toNat delta base
  rw [deltaChannel, BitVec.extractLsb'_toNat, Nat.shiftRight_zero]
  omega

/-- In a well-formed `DIFFERENTIAL` block none of the three sums overflows (30_encoding.md R59, R63). -/
theorem wf_differential_fits {f : DifferentialFields} (wf : (Instr.differential f).wf specLayout = true) :
    ¬ ovf5 f.r0 f.dr = true ∧ ¬ ovf5 f.g0 f.dg = true ∧ ¬ ovf5 f.b0 f.db = true := by
  obtain ⟨-, -, -, -, differential⟩ := modeOf_iff specLayout (differentialWord specLayout.differential f)
  obtain ⟨-, red, green, blue⟩ := differential.mp (of_decide_eq_true wf)
  have fields := differentialFieldsOf_word f
  rw [← fields]
  exact ⟨red, green, blue⟩

/-- Settles O17: well-formedness rules out the overflow that the five bits would drop. -/
theorem differentialSecondColourIsExact : Obligations.DifferentialSecondColourIsExact := by
  unfold Obligations.DifferentialSecondColourIsExact
  intro f s wf
  obtain ⟨red, green, blue⟩ := wf_differential_fits wf
  exact ⟨_, _, _, _, rfl, rfl, deltaChannel_toNat red, deltaChannel_toNat green, deltaChannel_toNat blue⟩

/-! ### Paints -/

theorem tileGet_selectPaint (p : Paints) (idxHi idxLo : BitVec 16) {i : Nat} (h : i < 16) :
    tileGet (selectPaint p idxHi idxLo) i = some (paintGet p (pixelIndex idxHi idxLo i)) :=
  tileGet_tileOf _ h

theorem tDsel_toNat (f : TFields) : (tDsel f).toNat = 2 * f.da.toNat + f.db.toNat := by
  rw [tDsel, append_toNat]
  omega

theorem hDsel_toNat (f : HFields) :
    (hDsel f).toNat = 4 * f.da.toNat + 2 * f.db.toNat + (orderBit (hBase0 f) (hBase1 f)).toNat := by
  rw [hDsel, append_toNat, append_toNat]
  omega

/-- Settles O18: the registers are those `writePaint` is given, the selector is its pieces appended, the pixels are
`SELECT_PAINT`'s. -/
theorem paintBlocksReconstruct : Obligations.PaintBlocksReconstruct := by
  unfold Obligations.PaintBlocksReconstruct
  refine ⟨fun f s => ⟨_, rfl, rfl, rfl, rfl, tDsel_toNat f, rfl, rfl, rfl, rfl, fun i h => tileGet_selectPaint _ _ _ h⟩,
    fun f s => ⟨_, rfl, rfl, rfl, rfl, ?_, rfl, rfl, rfl, rfl, fun i h => tileGet_selectPaint _ _ _ h⟩⟩
  exact (hDsel_toNat f).trans (congrArg _ (orderBit_toNat _ _))

theorem paintGet_mem (p : Paints) (idx : BitVec 2) : paintGet p idx ∈ [p.c0, p.c1, p.c2, p.c3] := by
  unfold paintGet
  split <;> simp

theorem pixelIndex_congr {hi lo hi' lo' : BitVec 16} {i : Nat} (high : hi.getLsbD i = hi'.getLsbD i)
    (low : lo.getLsbD i = lo'.getLsbD i) : pixelIndex hi lo i = pixelIndex hi' lo' i := by
  rw [pixelIndex, pixelIndex, high, low]

/-- Settles O23: the planes enter a pixel through its own PixelIndex only. -/
theorem pixelsDependOnOwnIndexBits : Obligations.PixelsDependOnOwnIndexBits := by
  unfold Obligations.PixelsDependOnOwnIndexBits
  refine ⟨fun p hi lo i h => ?_, fun p hi lo hi' lo' i h high low => ?_,
    fun cw b0 b1 ts0 ts1 flip hi lo hi' lo' i h high low => ?_⟩
  · rw [tileGet_selectPaint p hi lo h]
    exact List.mem_map_of_mem (f := some) (paintGet_mem p _)
  · rw [tileGet_selectPaint p hi lo h, tileGet_selectPaint p hi' lo' h, pixelIndex_congr high low]
  · rw [tileGet_reconEtc1 _ _ _ _ _ _ _ _ h, tileGet_reconEtc1 _ _ _ _ _ _ _ _ h, pixelIndex_congr high low]

/-! ### `PLANAR` -/

theorem tileGet_reconPlanar (base : Nat) (co ch cv : Pixel) {col row : Nat} (hcol : col < 4) (hrow : row < 4) :
    tileGet (reconPlanar base co ch cv) (col * 4 + row) = some
      ⟨planarChannel (col + base) (row + base) co.r ch.r cv.r, planarChannel (col + base) (row + base) co.g ch.g cv.g,
        planarChannel (col + base) (row + base) co.b ch.b cv.b⟩ := by
  have column : (col * 4 + row) / 4 = col := by omega
  have line : (col * 4 + row) % 4 = row := by omega
  rw [reconPlanar, tileGet_tileOf _ (by omega)]
  simp only [column, line]

/-- Floor division by 4 is the arithmetic shift of R122. -/
theorem planarChannel_eq_shift (x y : Nat) (o h v : Channel) : planarChannel x y o h v =
    clamp255 (((x : Int) * ((h.toNat : Int) - o.toNat) + (y : Int) * ((v.toNat : Int) - o.toNat) + 4 * o.toNat + 2) >>> (2 : Nat)) := by
  rw [planarChannel, Int.shiftRight_eq_div_pow]
  rfl

/-- Settles O20: the registers are those `writePlanar` is given, and each pixel is the formula at its column and row. -/
theorem planarBlockInterpolates : Obligations.PlanarBlockInterpolates := by
  unfold Obligations.PlanarBlockInterpolates
  refine fun f s => ⟨_, rfl, rfl, rfl, rfl, rfl, fun col row hcol hrow => ?_⟩
  refine (tileGet_reconPlanar _ _ _ _ hcol hrow).trans ?_
  simp only [planarChannel_eq_shift]
  rfl

theorem planarChannel_first (o h v : Channel) :
    planarChannel 1 1 o h v = clamp255 (((h.toNat : Int) + v.toNat + 2 * o.toNat + 2) / 4) := by
  rw [planarChannel]
  congr 2
  push_cast
  ring

theorem planarChannel_bottom (o h v : Channel) :
    planarChannel 1 4 o h v = clamp255 (((h.toNat : Int) + 4 * v.toNat - o.toNat + 2) / 4) := by
  rw [planarChannel]
  congr 2
  push_cast
  ring

theorem planarChannel_right (o h v : Channel) :
    planarChannel 4 1 o h v = clamp255 ((4 * (h.toNat : Int) + v.toNat - o.toNat + 2) / 4) := by
  rw [planarChannel]
  congr 2
  push_cast
  ring

theorem planarChannel_last (o h v : Channel) :
    planarChannel 4 4 o h v = clamp255 ((h.toNat : Int) + v.toNat - o.toNat) := by
  rw [planarChannel]
  congr 1
  push_cast
  omega

/-- Settles O21: positions 0, 3, 12, 15 have the multipliers (1, 1), (1, 4), (4, 1), (4, 4). -/
theorem planarCornerValues : Obligations.PlanarCornerValues := by
  unfold Obligations.PlanarCornerValues
  intro co ch cv p0 p3 p12 p15 at0 at3 at12 at15
  cases at0
  cases at3
  cases at12
  cases at15
  exact ⟨planarChannel_first _ _ _, planarChannel_first _ _ _, planarChannel_first _ _ _,
    planarChannel_bottom _ _ _, planarChannel_bottom _ _ _, planarChannel_bottom _ _ _,
    planarChannel_right _ _ _, planarChannel_right _ _ _, planarChannel_right _ _ _,
    planarChannel_last _ _ _, planarChannel_last _ _ _, planarChannel_last _ _ _⟩

theorem clamp255_of_channel (c : Channel) : clamp255 (c.toNat : Int) = c := by
  have clamped := clamp255_toNat (c.toNat : Int)
  have := c.isLt
  refine BitVec.eq_of_toNat_eq ?_
  omega

theorem planarChannel_flat (x y : Nat) (c : Channel) : planarChannel x y c c c = c := by
  rw [planarChannel, Int.sub_self, Int.mul_zero, Int.mul_zero]
  refine (congrArg clamp255 ?_).trans (clamp255_of_channel c)
  omega

theorem planarChannel_swap (x y : Nat) (o h v : Channel) : planarChannel x y o v h = planarChannel y x o h v := by
  rw [planarChannel, planarChannel, Int.add_comm (x * _)]

/-- Settles O22: equal colours have no slope, and the formula is symmetric in the pairs (x, `CH`), (y, `CV`). -/
theorem planarFlatAndTransposed : Obligations.PlanarFlatAndTransposed := by
  unfold Obligations.PlanarFlatAndTransposed
  refine ⟨fun base c i h => ?_, fun base co ch cv col row hcol hrow => ?_⟩
  · rw [reconPlanar, tileGet_tileOf _ h]
    simp only [planarChannel_flat]
  · rw [tileGet_reconPlanar _ _ _ _ hrow hcol, tileGet_reconPlanar _ _ _ _ hcol hrow]
    simp only [planarChannel_swap (row + base)]

/-! ### The block instructions as a whole -/

/-- Every block executes, and what it leaves in `PIX` and `MODE` is a function of the block and the parameters (R93). -/
theorem exec_decodeBlock (w : Block) (s : State) : ∃ t, exec (decodeBlock s.par.layout w) s = .next t ∧
    t.dp.pix = decodeTile s.par w ∧ t.dp.mode = modeOf s.par.layout w := by
  unfold decodeBlock decodeTile
  cases modeOf s.par.layout w <;> exact ⟨_, rfl, rfl, rfl⟩

/-- Settles O24: the statement is `exec_decodeBlock`. -/
theorem executedBlockIsDecodeBlock : Obligations.ExecutedBlockIsDecodeBlock := exec_decodeBlock

/-- Settles O25: each of the five answers with one of the three datapath writes. -/
theorem blockInstructionsFrame : Obligations.BlockInstructionsFrame := by
  unfold Obligations.BlockInstructionsFrame
  intro i s t block ran
  cases i with
  | start g => exact absurd rfl (block g)
  | individual f => cases ran; exact ⟨rfl, fun _ => rfl, fun _ => rfl, fun _ => rfl, rfl, rfl, rfl, rfl, rfl, rfl⟩
  | differential f => cases ran; exact ⟨rfl, fun _ => rfl, fun _ => rfl, fun _ => rfl, rfl, rfl, rfl, rfl, rfl, rfl⟩
  | t f => cases ran; exact ⟨rfl, fun _ => rfl, fun _ => rfl, fun _ => rfl, rfl, rfl, rfl, rfl, rfl, rfl, rfl⟩
  | h f => cases ran; exact ⟨rfl, fun _ => rfl, fun _ => rfl, fun _ => rfl, rfl, rfl, rfl, rfl, rfl, rfl, rfl⟩
  | planar f => cases ran; exact ⟨rfl, fun _ => rfl, fun _ => rfl, fun _ => rfl, rfl, rfl, rfl, rfl, rfl, rfl, rfl, rfl⟩

end Sys2Proof.Machine
end

section
/-! # Proofs of 45_assembler.md sections 3 and 4: the invariant of a run (R139 to R149) and the image a decode ends with (R148) -/

namespace Sys2Proof.Machine

/-! ### What a block read and a pixel visit are -/

/-- What a block instruction answers in a step: `DECODE_BLOCK` in `PIX`, and nothing but the datapath written (R93). -/
theorem ran_decodeBlock {l : Layout} {w : Block} {s u : State} (ran : exec (decodeBlock l w) s = .next u)
    (layout : l = s.par.layout) : u = { s with dp := u.dp } ∧ u.dp.pix = decodeTile s.par w ∧ u.dp.blk = s.dp.blk := by
  subst layout
  obtain ⟨t, ran', pix, -⟩ := exec_decodeBlock w s
  cases ran.symm.trans ran'
  obtain ⟨frame, -, -, -, blk, -⟩ := blockInstructionsFrame _ s u (decodeBlock_ne_start _ w) ran
  exact ⟨frame, pix, blk⟩

/-- The step of a block read that finds its 8 bytes (R140, R141). -/
theorem step_block {s : State} {rest : List HostOp} {w : Block} (turn : s.CoreTurn rest) (busy : s.status = .busy)
    (reading : s.phase = .read) (fetched : blockOfBytes (memRead s.stream s.pos 8) = some w) :
    ∃ d : Datapath, d.blk = w ∧ d.pix = decodeTile s.par w ∧
      step s = .next (storeBlock { s with host := rest, pos := s.pos + 8, dp := d }) := by
  obtain ⟨w', fetched', run⟩ | ⟨short, -⟩ := fetchBlock_cases { s with host := rest }
  · cases fetched.symm.trans fetched'
    obtain ⟨u, ran⟩ := exec_completes (decodeBlock s.par.layout w)
      { s with host := rest, pos := s.pos + 8, dp := { s.dp with blk := w } }
    obtain ⟨frame, pix, blk⟩ := ran_decodeBlock ran rfl
    refine ⟨u.dp, blk, pix, ?_⟩
    rw [step_of_run ((issue_read turn busy reading).trans run) ran, retire_decodeBlock]
    exact congrArg _ (congrArg storeBlock frame)
  · cases fetched.symm.trans short

/-- The block read that stands in the invariant's words as block `BY*XB + BX` of the stream. -/
theorem fetched_eq_streamBlock {s : State} (reading : s.Reading) :
    blockOfBytes (memRead s.stream s.pos 8) = streamBlock s.stream (s.bandY * s.xb + s.blockX) := by
  obtain ⟨-, -, -, -, pos, -⟩ := reading
  rw [pos, streamBlock]

/-! ### The configurations of the invariant -/

/-- What holds of a running decode in every configuration. -/
def State.Running (s : State) : Prop :=
  Gapless s.stream ∧ s.status = .busy ∧ s.NoError ∧ s.SizesResolved ∧ s.Admitted

theorem inv_read_iff {s : State} (busy : s.status = .busy) (phase : s.phase = .read) :
    s.Inv ↔ s.Running ∧ s.OutHolds ∧ s.Reading := by
  simp only [State.Inv, State.Running, busy, phase, true_and, and_assoc]

theorem inv_emit_iff {s : State} (busy : s.status = .busy) (phase : s.phase = .emit) :
    s.Inv ↔ s.Running ∧ s.OutHolds ∧ s.Emitting := by
  simp only [State.Inv, State.Running, busy, phase, true_and, and_assoc]

theorem running_of_inv {s : State} (inv : s.Inv) (busy : s.status = .busy) : s.Running := by
  cases phase : s.phase with
  | read => exact ((inv_read_iff busy phase).mp inv).1
  | emit => exact ((inv_emit_iff busy phase).mp inv).1

theorem inv_done_iff {s : State} (done : s.status = .done) :
    s.Inv ↔ Gapless s.stream ∧ s.NoError ∧ s.SizesResolved ∧ s.pos = 8 * (s.xb * s.yb) ∧ s.outp = s.w * s.h * 3 ∧
      s.out.map Prod.fst = List.range s.outp ∧ s.band = [] := by
  simp only [State.Inv, done]

theorem inv_error_iff {s : State} (error : s.status = .error) :
    s.Inv ↔ Gapless s.stream ∧
      (s.errKind = .invalidResolution ∨ s.errKind = .shortRead ∨ s.errKind = .allocationFailure) ∧
      s.band = [] ∧ s.out = [] := by
  simp only [State.Inv, error]

theorem inv_idle_iff {s : State} (idle : s.status = .idle) :
    s.Inv ↔ Gapless s.stream ∧ s.NoError ∧ s.resWidth = 0 ∧ s.resHeight = 0 ∧ s.band = [] ∧ s.out = [] := by
  simp only [State.Inv, idle]

/-! ### How many pixels are emitted -/

/-- The pixels of a `w` by `h` image in the rows above `row`, and of `row` those left of `col`. -/
def emittedAt (w h row col : Nat) : Nat := w * min h row + (if row < h then min w col else 0)

theorem emitted_of_emit {s : State} (phase : s.phase = .emit) :
    s.emitted = emittedAt s.w s.h (4 * s.bandY + s.rowJ) (4 * s.blockX + s.colK) := by
  simp only [State.emitted, phase, emittedAt]

theorem emitted_of_read {s : State} (phase : s.phase = .read) : s.emitted = emittedAt s.w s.h (4 * s.bandY) 0 := by
  simp [State.emitted, phase, emittedAt]

theorem emittedAt_inside {w h row col : Nat} (column : col < w) (line : row < h) :
    emittedAt w h row col = row * w + col := by
  rw [emittedAt, if_pos line, Nat.min_eq_right line.le, Nat.min_eq_right column.le, Nat.mul_comm]

theorem emittedAt_succ_inside {w h row col : Nat} (column : col < w) (line : row < h) :
    emittedAt w h row (col + 1) = emittedAt w h row col + 1 := by
  rw [emittedAt, emittedAt, if_pos line, if_pos line]
  omega

/-- A padding column or a padding row emits nothing (R144). -/
theorem emittedAt_succ_padding {w h row col : Nat} (padding : ¬(col < w ∧ row < h)) :
    emittedAt w h row (col + 1) = emittedAt w h row col := by
  unfold emittedAt
  split <;> omega

/-- A row whose columns are all visited is one of the rows above. -/
theorem emittedAt_nextRow {w h row col : Nat} (all : w ≤ col) : emittedAt w h row col = emittedAt w h (row + 1) 0 := by
  unfold emittedAt
  rw [Nat.min_zero, ite_self, Nat.min_eq_left all]
  split
  case isTrue line =>
    rw [Nat.min_eq_right line.le, Nat.min_eq_right (Nat.succ_le_of_lt line), Nat.mul_succ, Nat.add_zero]
  case isFalse below => rw [Nat.min_eq_left (by omega), Nat.min_eq_left (by omega)]

theorem emittedAt_all {w h row : Nat} (all : h ≤ row) : emittedAt w h row 0 = w * h := by
  rw [emittedAt, if_neg (by omega), Nat.min_eq_left all, Nat.add_zero]

theorem emittedAt_zero (w h : Nat) : emittedAt w h 0 0 = 0 := by
  simp [emittedAt]

/-! ### What `OUT` holds after a visit -/

/-- `OUT` holds exactly the first `n` pixels of the image. -/
def State.OutHoldsTo (s : State) (n : Nat) : Prop :=
  s.outp = 3 * n ∧ s.out.map Prod.fst = List.range s.outp ∧
  ∀ x y, x < s.w → y < s.h → y * s.w + x < n → ∃ p, expectedPixel s x y = some p ∧ PixelAt s.out (y * s.w + x) p

theorem outHolds_iff (s : State) : s.OutHolds ↔ s.OutHoldsTo s.emitted := Iff.rfl

theorem outHoldsTo_afterPixel {s : State} {n : Nat} : (afterPixel s).OutHoldsTo n ↔ s.OutHoldsTo n := by
  simp only [State.OutHoldsTo, expectedPixel, afterPixel_outp, afterPixel_out, afterPixel_w, afterPixel_h,
    afterPixel_stream, afterPixel_xb, afterPixel_par]

/-- A write above every listed key appends. -/
theorem Store.write_above {α : Type} {m : Store α} {a : Nat} (v : α) (above : ∀ k ∈ m.map Prod.fst, k < a) :
    Store.write m a v = m ++ [(a, v)] := by
  induction m with
  | nil => rfl
  | cons c m ih =>
    obtain ⟨k, u⟩ := c
    obtain ⟨first, others⟩ := List.forall_mem_cons.mp above
    rw [Store.write, if_neg first.not_gt, if_neg first.ne', ih others, List.cons_append]

/-- Bytes written at the end of a gapless space leave it gapless. -/
theorem memWrite_keys_at_end {m : Memory} {n : Nat} (bs : List Byte) (keys : m.map Prod.fst = List.range n) :
    (memWrite m n bs).map Prod.fst = List.range (n + bs.length) := by
  induction bs generalizing m n with
  | nil => exact keys
  | cons b bs ih =>
    rw [memWrite, List.length_cons, Nat.add_comm bs.length 1, ← Nat.add_assoc]
    refine ih ?_
    rw [Store.write_above b (by simp [keys]), List.map_append, keys, List.range_succ]
    rfl

theorem pixelAt_memWrite_same (m : Memory) (q : Nat) (p : Pixel) : PixelAt (memWrite m (3 * q) [p.r, p.g, p.b]) q p := by
  have written {i : Nat} (h : i < 3) := byteAt_memWrite_same m (3 * q) [p.r, p.g, p.b] h
  exact ⟨written (i := 0) (by decide), written (i := 1) (by decide), written (i := 2) (by decide)⟩

theorem pixelAt_memWrite_other {m : Memory} {q q' : Nat} {p : Pixel} (bs : List Byte) (below : q' < q)
    (held : PixelAt m q' p) : PixelAt (memWrite m (3 * q) bs) q' p := by
  obtain ⟨r, g, b⟩ := held
  refine ⟨?_, ?_, ?_⟩
  · rwa [byteAt_memWrite_other m bs (by omega)]
  · rwa [byteAt_memWrite_other m bs (by omega)]
  · rwa [byteAt_memWrite_other m bs (by omega)]

/-- A raster place belongs to one pixel. -/
theorem raster_injective {w x y x' y' : Nat} (hx : x < w) (hx' : x' < w) (same : y * w + x = y' * w + x') :
    x = x' ∧ y = y' := by
  have row (a b : Nat) (hb : b < w) : (a * w + b) / w = a := by
    rw [Nat.mul_comm, Nat.mul_add_div (by omega), Nat.div_eq_of_lt hb, Nat.add_zero]
  have rows : y = y' := by rw [← row y x hx, same, row y' x' hx']
  subst rows
  exact ⟨by omega, rfl⟩

/-- Appending the next pixel of the image extends what `OUT` holds by it (R145). -/
theorem outHoldsTo_appendPixel {s : State} {p : Pixel} {x y : Nat} (holds : s.OutHoldsTo (y * s.w + x)) (inRow : x < s.w)
    (expected : expectedPixel s x y = some p) : (appendPixel s p).OutHoldsTo (y * s.w + x + 1) := by
  obtain ⟨outp, keys, pixels⟩ := holds
  refine ⟨?_, memWrite_keys_at_end _ keys, fun x' y' hx' hy' before => ?_⟩
  · rw [appendPixel_outp, outp]
    omega
  · rw [appendPixel_out, outp]
    rw [appendPixel_w] at hx' before ⊢
    by_cases last : y' * s.w + x' = y * s.w + x
    · obtain ⟨rfl, rfl⟩ := raster_injective hx' inRow last
      exact ⟨p, expected, pixelAt_memWrite_same _ _ _⟩
    · have earlier : y' * s.w + x' < y * s.w + x := by omega
      obtain ⟨p', expected', held⟩ := pixels x' y' hx' hy' earlier
      exact ⟨p', expected', pixelAt_memWrite_other _ earlier held⟩

/-- The pixel of a visit is the one the stream defines at its place (R144, R148). -/
theorem visitPixel_of_emitting {s : State} (emitting : s.Emitting) : ∃ p,
    expectedPixel s (4 * s.blockX + s.colK) (4 * s.bandY + s.rowJ) = some p ∧
    visitPixel s = afterPixel (if inImage s then appendPixel s p else s) := by
  obtain ⟨-, column, row, col, -, -, slots, -⟩ := emitting
  obtain ⟨w, block, stored⟩ := slots _ column
  obtain ⟨p, pixel⟩ := tileGet_isSome (t := decodeTile s.par w) (show s.colK * 4 + s.rowJ < 16 by omega)
  refine ⟨p, ?_, visitPixel_of_stored stored pixel⟩
  have bx : (4 * s.blockX + s.colK) / 4 = s.blockX := by omega
  have bandY : (4 * s.bandY + s.rowJ) / 4 = s.bandY := by omega
  have place : (4 * s.blockX + s.colK) % 4 * 4 + (4 * s.bandY + s.rowJ) % 4 = s.colK * 4 + s.rowJ := by omega
  rw [expectedPixel, bx, bandY, block, place]
  exact pixel

/-- After a visit `OUT` holds the pixels up to and with the visited place. -/
theorem outHoldsTo_visited {s : State} {p : Pixel} (phase : s.phase = .emit) (holds : s.OutHolds)
    (expected : expectedPixel s (4 * s.blockX + s.colK) (4 * s.bandY + s.rowJ) = some p) :
    (if inImage s then appendPixel s p else s).OutHoldsTo
      (emittedAt s.w s.h (4 * s.bandY + s.rowJ) (4 * s.blockX + s.colK + 1)) := by
  rw [outHolds_iff, emitted_of_emit phase] at holds
  have inside := inImage_iff s
  rw [Nat.mul_comm s.blockX, Nat.mul_comm s.bandY] at inside
  by_cases image : inImage s = true
  · obtain ⟨column, line⟩ := inside.mp image
    rw [if_pos image, emittedAt_succ_inside column line, emittedAt_inside column line]
    rw [emittedAt_inside column line] at holds
    exact outHoldsTo_appendPixel holds column expected
  · rw [if_neg image, emittedAt_succ_padding (mt inside.mpr image)]
    exact holds

/-! ### The next configuration -/

theorem outHolds_of_emit {s : State} {n : Nat} (phase : s.phase = .emit) (holds : s.OutHoldsTo n)
    (count : n = emittedAt s.w s.h (4 * s.bandY + s.rowJ) (4 * s.blockX + s.colK)) : s.OutHolds := by
  rwa [outHolds_iff, emitted_of_emit phase, ← count]

theorem outHolds_of_read {s : State} {n : Nat} (phase : s.phase = .read) (holds : s.OutHoldsTo n)
    (count : n = emittedAt s.w s.h (4 * s.bandY) 0) : s.OutHolds := by
  rwa [outHolds_iff, emitted_of_read phase, ← count]

theorem inv_of_emit {s : State} (running : s.Running) (phase : s.phase = .emit) (holds : s.OutHolds)
    (emitting : s.Emitting) : s.Inv := by
  obtain ⟨-, busy, -⟩ := id running
  exact (inv_emit_iff busy phase).mpr ⟨running, holds, emitting⟩

theorem inv_of_read {s : State} (running : s.Running) (phase : s.phase = .read) (holds : s.OutHolds)
    (reading : s.Reading) : s.Inv := by
  obtain ⟨-, busy, -⟩ := id running
  exact (inv_read_iff busy phase).mpr ⟨running, holds, reading⟩

/-- A released band holds nothing (R146). -/
theorem bandHolds_of_empty {s : State} (released : s.band = []) : s.BandHolds 0 := by
  refine ⟨?_, fun x below => absurd below (Nat.not_lt_zero x), fun x _ => ?_⟩
  · rw [released]
    exact List.Pairwise.nil
  · rw [released, Store.read_nil]

theorem le_four_mul_ceil4 (n : Nat) : n ≤ 4 * ceil4 n := by
  unfold ceil4
  omega

/-- Past the last column of the last block every pixel of the row is counted. -/
theorem emittedAt_lastBlock {s : State} (running : s.Running) (lastCol : ¬s.colK + 1 < 4) (lastBlock : ¬s.blockX + 1 < s.xb) :
    emittedAt s.w s.h (4 * s.bandY + s.rowJ) (4 * s.blockX + s.colK + 1) =
      emittedAt s.w s.h (4 * s.bandY + s.rowJ + 1) 0 := by
  obtain ⟨-, -, -, ⟨-, -, xb, -⟩, -⟩ := running
  have width := le_four_mul_ceil4 s.w
  exact emittedAt_nextRow (by omega)

/-- After the last pixel of a band (R146, R147): its next band is read from what is left of the stream, or all pixels are in
`OUT`. -/
theorem inv_afterBand {s : State} (running : s.Running) (band : s.bandY < s.yb) (pos : s.pos = 8 * (s.bandY * s.xb + s.xb))
    (column : s.blockX < s.xb) (holds : s.OutHoldsTo (emittedAt s.w s.h (4 * (s.bandY + 1)) 0)) : (afterBand s).Inv := by
  unfold afterBand
  split
  case isTrue more =>
    refine inv_of_read running rfl (outHolds_of_read rfl holds rfl) ⟨more, Nat.zero_lt_of_lt column, rfl, rfl, ?_, ?_⟩
    · exact pos.trans (congrArg (8 * ·) (Nat.succ_mul _ _).symm)
    · exact bandHolds_of_empty rfl
  case isFalse last =>
    obtain ⟨gapless, -, noError, sizes, -⟩ := running
    obtain ⟨-, -, -, yb, -⟩ := id sizes
    have bands : s.yb = s.bandY + 1 := by omega
    have height := le_four_mul_ceil4 s.h
    obtain ⟨outp, keys, -⟩ := holds
    rw [emittedAt_all (by omega)] at outp
    refine (inv_done_iff rfl).mpr ⟨gapless, noError, sizes, ?_, ?_, keys, rfl⟩
    · rw [bands, Nat.mul_succ, Nat.mul_comm s.xb]
      exact pos
    · rw [outp]
      exact Nat.mul_comm _ _

/-- The invariant at each turn of the three loops (R143). -/
theorem inv_afterPixel {s : State} (running : s.Running) (phase : s.phase = .emit) (emitting : s.Emitting)
    (holds : s.OutHoldsTo (emittedAt s.w s.h (4 * s.bandY + s.rowJ) (4 * s.blockX + s.colK + 1))) :
    (afterPixel s).Inv := by
  obtain ⟨band, column, row, col, pos, slots⟩ := emitting
  obtain ⟨more, next⟩ | ⟨lastCol, more, next⟩ | ⟨lastCol, lastBlock, more, next⟩ | ⟨lastCol, lastBlock, lastRow, next⟩ :=
    afterPixel_cases s
  · rw [next]
    exact inv_of_emit running phase (outHolds_of_emit phase holds rfl) ⟨band, column, row, more, pos, slots⟩
  · rw [next]
    refine inv_of_emit running phase (outHolds_of_emit phase holds ?_) ⟨band, more, row, Nat.succ_pos 3, pos, slots⟩
    have : s.colK = 3 := by omega
    rw [this]
    rfl
  · rw [emittedAt_lastBlock running lastCol lastBlock] at holds
    rw [next]
    exact inv_of_emit running phase (outHolds_of_emit phase holds rfl)
      ⟨band, Nat.zero_lt_of_lt column, more, Nat.succ_pos 3, pos, slots⟩
  · rw [emittedAt_lastBlock running lastCol lastBlock] at holds
    rw [next]
    have : s.rowJ = 3 := by omega
    rw [this] at holds
    exact inv_afterBand running band pos column holds

/-- A visit in a run moves the counters of a state whose `OUT` holds the image so far. -/
theorem visitPixel_of_inv {s : State} (busy : s.status = .busy) (phase : s.phase = .emit) (inv : s.Inv) :
    ∃ u : State, visitPixel s = afterPixel u ∧ u.Running ∧ u.phase = .emit ∧ u.Emitting ∧
      u.OutHoldsTo (emittedAt u.w u.h (4 * u.bandY + u.rowJ) (4 * u.blockX + u.colK + 1)) := by
  obtain ⟨running, holds, emitting⟩ := (inv_emit_iff busy phase).mp inv
  obtain ⟨p, expected, visit⟩ := visitPixel_of_emitting emitting
  have visited := outHoldsTo_visited phase holds expected
  by_cases image : inImage s = true
  · rw [if_pos image] at visited visit
    exact ⟨appendPixel s p, visit, running, phase, emitting, visited⟩
  · rw [if_neg image] at visited visit
    exact ⟨s, visit, running, phase, emitting, visited⟩

theorem inv_visitPixel {s : State} (busy : s.status = .busy) (phase : s.phase = .emit) (inv : s.Inv) :
    (visitPixel s).Inv := by
  obtain ⟨u, visit, running, phase', emitting, holds⟩ := visitPixel_of_inv busy phase inv
  rw [visit]
  exact inv_afterPixel running phase' emitting holds

/-- A stored block fills the next slot of the band (R141). -/
theorem bandHolds_store {s : State} {w : Block} (slots : s.BandHolds s.blockX)
    (block : streamBlock s.stream (s.bandY * s.xb + s.blockX) = some w) :
    ({ s with band := bandWrite s.band s.blockX (decodeTile s.par w) } : State).BandHolds (s.blockX + 1) := by
  obtain ⟨form, held, free⟩ := slots
  refine ⟨bandWrite_wf form _ _, fun x below => ?_, fun x above => ?_⟩
  · by_cases last : x = s.blockX
    · subst last
      exact ⟨w, block, Store.read_write_same _ _ _⟩
    · obtain ⟨w', block', read⟩ := held x (by omega)
      exact ⟨w', block', (Store.read_write_other _ _ last).trans read⟩
  · exact (Store.read_write_other _ _ (by omega)).trans (free x (by omega))

/-- The invariant past a block read, whatever else of the datapath it writes. -/
theorem inv_storeBlock {s : State} {w : Block} {d : Datapath} (busy : s.status = .busy) (phase : s.phase = .read)
    (inv : s.Inv) (fetched : blockOfBytes (memRead s.stream s.pos 8) = some w) (pix : d.pix = decodeTile s.par w) :
    (storeBlock { s with pos := s.pos + 8, dp := d }).Inv := by
  obtain ⟨running, holds, reading⟩ := (inv_read_iff busy phase).mp inv
  rw [fetched_eq_streamBlock reading] at fetched
  obtain ⟨band, column, row, col, pos, slots⟩ := reading
  have stored := bandHolds_store slots fetched
  rw [outHolds_iff, emitted_of_read phase] at holds
  have pos' : s.pos + 8 = 8 * (s.bandY * s.xb + (s.blockX + 1)) := by omega
  rw [storeBlock, pix, afterBlock]
  split
  case isTrue more =>
    exact inv_of_read running phase (outHolds_of_read phase holds rfl) ⟨band, more, row, col, pos', stored⟩
  case isFalse last =>
    have all : s.blockX + 1 = s.xb := by
      have : ¬ s.blockX + 1 < s.xb := last
      omega
    rw [all] at pos' stored
    exact inv_of_emit running rfl (outHolds_of_emit rfl holds rfl)
      ⟨band, Nat.zero_lt_of_lt column, Nat.succ_pos 3, Nat.succ_pos 3, pos', stored⟩

/-- The error entry meets the invariant, whatever it is taken from (R155). -/
theorem inv_raise {s : State} {kind : ErrKind} {required available : Nat} (gapless : Gapless s.stream)
    (raised : kind = .invalidResolution ∨ kind = .shortRead ∨ kind = .allocationFailure) :
    (raise s kind required available).Inv :=
  (inv_error_iff rfl).mpr ⟨gapless, raised, rfl, rfl⟩

/-- The invariant past an accepted `START`: an error, or a decode that stands at its first block or has none (R130 to R138). -/
theorem inv_start {s : State} (gapless : Gapless s.stream) : (resolveAndCheck (startEntry s)).Inv := by
  obtain ⟨-, outcome⟩ | ⟨w, h, -, -, ⟨-, outcome⟩ | ⟨⟨wFits, hFits⟩, ⟨-, outcome⟩ | ⟨declared, ⟨-, outcome⟩ |
    ⟨⟨band, out⟩, outcome⟩⟩⟩⟩ := resolveAndCheck_cases (startEntry s)
  · rw [outcome]
    exact inv_raise gapless (.inl rfl)
  · rw [outcome]
    exact inv_raise gapless (.inl rfl)
  · rw [outcome]
    exact inv_raise gapless (.inl rfl)
  · rw [outcome]
    exact inv_raise gapless (.inr (.inr rfl))
  · rw [outcome, beginTraversal]
    have sizes : (publish (startEntry s) w h).SizesResolved := ⟨wFits, hFits, rfl, rfl, rfl, rfl⟩
    have holds : (publish (startEntry s) w h).OutHoldsTo 0 :=
      ⟨rfl, rfl, fun _ _ _ _ before => absurd before (Nat.not_lt_zero _)⟩
    split
    case isTrue empty =>
      refine (inv_done_iff rfl).mpr ⟨gapless, ⟨rfl, rfl, rfl⟩, sizes, (congrArg (8 * ·) empty).symm, ?_, rfl, rfl⟩
      change 0 = w * h * 3
      obtain none | none := Nat.mul_eq_zero.mp empty
      · rw [(ceil4_eq_zero_iff w).mp none, Nat.zero_mul, Nat.zero_mul]
      · rw [(ceil4_eq_zero_iff h).mp none, Nat.mul_zero, Nat.zero_mul]
    case isFalse blocks =>
      obtain ⟨columns, bands⟩ := Nat.mul_ne_zero_iff.mp blocks
      refine inv_of_read ⟨gapless, rfl, ⟨rfl, rfl, rfl⟩, sizes, declared, band, out⟩ rfl
        (outHolds_of_read rfl holds (emittedAt_zero w h).symm) ?_
      refine ⟨Nat.pos_of_ne_zero bands, Nat.pos_of_ne_zero columns, rfl, rfl, ?_, bandHolds_of_empty rfl⟩
      exact (congrArg (8 * ·) (Nat.zero_mul _)).symm

/-- Outside `BUSY` the invariant names neither the registers that the host writes nor, but that it is gapless, the stream
(10_state.md R29). -/
theorem inv_of_quiet {s t : State} (quiet : s.status ≠ .busy) (inv : s.Inv) (gapless : Gapless t.stream)
    (frame : t = { s with reqWidth := t.reqWidth, reqHeight := t.reqHeight, streamLen := t.streamLen, stream := t.stream }) :
    t.Inv := by
  obtain ⟨-, configuration⟩ := inv
  refine ⟨gapless, ?_⟩
  rw [frame]
  cases status : s.status with
  | busy => exact absurd status quiet
  | idle =>
    simp only [status] at configuration ⊢
    exact configuration
  | done =>
    simp only [status] at configuration ⊢
    exact configuration
  | error =>
    simp only [status] at configuration ⊢
    exact configuration

theorem csrWrite_frame (s : State) (reg : Nat) (v : BitVec 64) : csrWrite s reg v =
    { s with reqWidth := (csrWrite s reg v).reqWidth, reqHeight := (csrWrite s reg v).reqHeight,
             streamLen := (csrWrite s reg v).streamLen } := by
  unfold csrWrite
  split
  · rfl
  · split <;> rfl

theorem csrWrite_stream (s : State) (reg : Nat) (v : BitVec 64) : (csrWrite s reg v).stream = s.stream := by
  rw [csrWrite_frame]

theorem inv_csrWrite {s : State} (inv : s.Inv) (reg : Nat) (v : BitVec 64) : (csrWrite s reg v).Inv := by
  by_cases busy : s.status = .busy
  · rwa [csrWrite_of_busy busy]
  · refine inv_of_quiet busy inv ?_ ?_
    · rw [csrWrite_stream]
      exact inv.1
    · rw [csrWrite_stream]
      exact csrWrite_frame s reg v

theorem memOfBytes_gapless (bs : List Byte) : Gapless (memOfBytes 0 bs) := by
  rw [Gapless, memOfBytes_keys, memOfBytes_length, List.range_eq_range']

theorem hostSupply_of_quiet {s : State} (quiet : s.status ≠ .busy) (bytes : List Byte) :
    hostSupply s bytes = .next { s with stream := memOfBytes 0 bytes } := if_neg quiet

theorem hostSupply_of_busy {s : State} (busy : s.status = .busy) (bytes : List Byte) :
    hostSupply s bytes = .refused .streamChangedWhileBusy := if_pos busy

theorem inv_hostSupply {s t : State} {bytes : List Byte} (inv : s.Inv) (answered : hostSupply s bytes = .next t) : t.Inv := by
  by_cases busy : s.status = .busy
  · cases answered.symm.trans (hostSupply_of_busy busy bytes)
  · cases answered.symm.trans (hostSupply_of_quiet busy bytes)
    exact inv_of_quiet busy inv (memOfBytes_gapless bytes) rfl

/-- Settles O49: one case of `State.StepsTo` after the other. -/
theorem stepKeepsInvariant : Obligations.StepKeepsInvariant := by
  unfold Obligations.StepKeepsInvariant
  intro s t inv stepped
  obtain ⟨gapless, -⟩ := id inv
  cases stepsTo_of_step stepped with
  | quiet => exact inv
  | @block rest w u turn busy reading fetched ran =>
    obtain ⟨frame, pix, -⟩ := ran_decodeBlock ran rfl
    rw [frame]
    exact inv_storeBlock (s := { s with host := rest }) busy reading inv fetched pix
  | shortRead => exact inv_raise gapless (.inr (.inl rfl))
  | @visit rest turn busy emitting => exact inv_visitPixel (s := { s with host := rest }) busy emitting inv
  | awaited => exact inv
  | start => exact inv_start gapless
  | @csrWrite reg v rest => exact inv_csrWrite (s := { s with host := rest }) inv _ _
  | csrRead => exact inv
  | readOut moves answered =>
    rw [hostReadOut_frame answered]
    exact inv
  | @supply bytes rest t moves answered => exact inv_hostSupply (s := { s with host := rest }) inv answered
  | reset => exact (inv_idle_iff rfl).mpr ⟨gapless, ⟨rfl, rfl, rfl⟩, rfl, rfl, rfl, rfl⟩

/-- Settles O48: nothing is held, nothing is recorded. -/
theorem resetMeetsInvariant : Obligations.ResetMeetsInvariant :=
  (inv_idle_iff rfl).mpr ⟨rfl, ⟨rfl, rfl, rfl⟩, rfl, rfl, rfl, rfl⟩

/-! ### How a decode ends -/

theorem afterPixel_status_cases (s : State) : (afterPixel s).status = s.status ∨ (afterPixel s).status = .done := by
  obtain ⟨-, next⟩ | ⟨-, -, next⟩ | ⟨-, -, -, next⟩ | ⟨-, -, -, next⟩ := afterPixel_cases s
  · rw [next]
    exact .inl rfl
  · rw [next]
    exact .inl rfl
  · rw [next]
    exact .inl rfl
  · rw [next, afterBand]
    split
    · exact .inl rfl
    · exact .inr rfl

theorem emitPixel_status_cases (s : State) (p : Pixel) :
    (emitPixel s p).status = s.status ∨ (emitPixel s p).status = .done := by
  have next := afterPixel_status_cases (if inImage s then appendPixel s p else s)
  rwa [apply_ite State.status (inImage s = true), appendPixel_status, ite_self] at next

theorem visitPixel_status_cases (s : State) : (visitPixel s).status = s.status ∨ (visitPixel s).status = .done := by
  obtain ⟨p, -, visit⟩ | ⟨-, visit⟩ := visitPixel_cases s
  · rw [visit]
    exact emitPixel_status_cases s p
  · rw [visit]
    exact emitPixel_status_cases _ _

theorem csrWrite_status (s : State) (reg : Nat) (v : BitVec 64) : (csrWrite s reg v).status = s.status := by
  rw [csrWrite_frame]

/-- A step leaves `BUSY` by reset, by a short read, or by a visit that ends in `DONE`. -/
theorem step_leaves_busy {s t : State} (busy : s.status = .busy) (stepped : step s = .next t) (left : t.status ≠ .busy) :
    (∃ rest, s.host = .reset :: rest ∧ t.status = .idle) ∨
    (∃ rest, s.CoreTurn rest ∧ s.phase = .read ∧ t.status = .error ∧ t.errKind = .shortRead) ∨
    (∃ rest, s.CoreTurn rest ∧ s.phase = .emit ∧ t.status = .done ∧ t = visitPixel { s with host := rest }) := by
  cases stepsTo_of_step stepped with
  | quiet turn notBusy => exact absurd busy notBusy
  | block turn _ _ fetched ran =>
    rw [storeBlock_status, exec_decodeBlock_frame ran] at left
    exact absurd busy left
  | @shortRead rest turn _ reading => exact .inr (.inl ⟨rest, turn, reading, rfl, rfl⟩)
  | @visit rest turn _ emitting =>
    refine .inr (.inr ⟨rest, turn, emitting, ?_, rfl⟩)
    obtain same | done := visitPixel_status_cases { s with host := rest }
    · exact absurd (same.trans busy) left
    · exact done
  | awaited moves notBusy => exact absurd busy notBusy
  | start moves bit accepted => exact absurd busy accepted
  | csrWrite =>
    rw [csrWrite_status] at left
    exact absurd busy left
  | csrRead => exact absurd busy left
  | readOut moves answered =>
    rw [hostReadOut_frame answered] at left
    exact absurd busy left
  | supply moves answered =>
    rw [hostSupply_frame answered] at left
    exact absurd busy left
  | @reset rest moves => exact .inl ⟨rest, moves, rfl⟩

/-- With every pixel in `OUT` the image is whole (R148). -/
theorem holdsImage_of_all {s : State} (holds : s.OutHoldsTo (s.w * s.h)) : s.HoldsImage := by
  obtain ⟨-, -, pixels⟩ := holds
  intro x y hx hy
  refine pixels x y hx hy ?_
  calc y * s.w + x < (y + 1) * s.w := by rw [Nat.succ_mul]; omega
    _ ≤ s.h * s.w := Nat.mul_le_mul_right _ hy
    _ = s.w * s.h := Nat.mul_comm _ _

/-- Settles O58: the step is a visit, and by the invariant of `DONE` the pixels that `OUT` then holds are all there are. -/
theorem decodeEndsWithWholeImage : Obligations.DecodeEndsWithWholeImage := by
  unfold Obligations.DecodeEndsWithWholeImage
  intro s t inv busy stepped done
  obtain ⟨-, ⟨noError, -⟩, ⟨wFits, hFits, -, -, resWidth, resHeight⟩, pos, outp, keys, -⟩ :=
    (inv_done_iff done).mp (stepKeepsInvariant s t inv stepped)
  have image : t.HoldsImage := by
    obtain ⟨_, -, idle⟩ | ⟨_, -, -, error, -⟩ | ⟨rest, -, phase, -, rfl⟩ := step_leaves_busy busy stepped (by simp [done])
    · cases done.symm.trans idle
    · cases done.symm.trans error
    · obtain ⟨u, visit, -, -, -, holds⟩ := visitPixel_of_inv (s := { s with host := rest }) busy phase inv
      rw [visit] at outp ⊢
      have holds' := outHoldsTo_afterPixel.mpr holds
      obtain ⟨count, -⟩ := id holds'
      have all : (afterPixel u).w * (afterPixel u).h =
          emittedAt u.w u.h (4 * u.bandY + u.rowJ) (4 * u.blockX + u.colK + 1) := by omega
      exact holdsImage_of_all (all ▸ holds')
  refine ⟨image, outp, ?_, ?_, ?_, noError, outp ▸ keys⟩
  · rw [pos, Nat.mul_comm]
  · rw [resWidth, BitVec.toNat_ofNat, Nat.mod_eq_of_lt wFits]
  · rw [resHeight, BitVec.toNat_ofNat, Nat.mod_eq_of_lt hFits]

end Sys2Proof.Machine
end

section
/-! # Proofs of 45_assembler.md section 3: one block read and one pixel visit (R139 to R147, R149) -/

namespace Sys2Proof.Machine

/-- Settles O35: what `issue` says is next is run, and nothing follows a `START`. -/
theorem stepRunsDecodedInstruction : Obligations.StepRunsDecodedInstruction := by
  unfold Obligations.StepRunsDecodedInstruction
  refine ⟨fun s rest w turn busy reading fetched => ⟨rfl, ?_⟩, fun s rest v i moves decoded => ?_⟩
  · obtain ⟨w', fetched', run⟩ | ⟨short, -⟩ := fetchBlock_cases { s with host := rest }
    · cases fetched.symm.trans fetched'
      obtain ⟨t, ran⟩ := exec_completes (decodeBlock s.par.layout w)
        { s with host := rest, pos := s.pos + 8, dp := { s.dp with blk := w } }
      rw [ran]
      exact step_of_run ((issue_read turn busy reading).trans run) ran
    · cases fetched.symm.trans short
  · obtain ⟨rfl, -⟩ := (startCommandRoundTrips s.par.layout).2.1 _ i decoded
    obtain ⟨t, ran⟩ := exec_completes (.start ((v.setWidth 32).extractLsb' 1 31)) { s with host := rest }
    rw [ran]
    refine step_of_run ((issue_write moves).trans ?_) ran
    simp only [hostWrite, if_true, decoded]

/-! ### The block read -/

theorem storeBlock_band (s : State) : (storeBlock s).band = bandWrite s.band s.blockX s.dp.pix := afterBlock_band _

/-- While the band has blocks to read the next read follows (R140). -/
theorem storeBlock_more {s : State} (more : s.blockX + 1 < s.xb) :
    (storeBlock s).phase = s.phase ∧ (storeBlock s).blockX = s.blockX + 1 := by
  rw [storeBlock, afterBlock, if_pos more]
  exact ⟨rfl, rfl⟩

/-- After its last block a band is emitted (R143). -/
theorem storeBlock_last {s : State} (last : s.xb ≤ s.blockX + 1) :
    (storeBlock s).phase = .emit ∧ (storeBlock s).blockX = 0 ∧ (storeBlock s).rowJ = 0 ∧ (storeBlock s).colK = 0 := by
  rw [storeBlock, afterBlock, if_neg (Nat.not_lt.mpr last)]
  exact ⟨rfl, rfl, rfl, rfl⟩

/-- Settles O36: the step is the store of the block's pixels. -/
theorem blockReadFillsBandSlot : Obligations.BlockReadFillsBandSlot := by
  unfold Obligations.BlockReadFillsBandSlot
  intro s rest w turn busy reading fetched
  obtain ⟨d, blk, pix, stepped⟩ := step_block turn busy reading fetched
  refine ⟨_, stepped, storeBlock_pos _, ?_, ?_, fun x other => ?_, storeBlock_out _, storeBlock_outp _, storeBlock_bandY _,
    (storeBlock_status _).trans busy, storeBlock_w _, storeBlock_h _, storeBlock_xb _, storeBlock_yb _, fun more => ?_,
    fun last => ?_⟩
  · rw [storeBlock_dp]
    exact blk
  · rw [storeBlock_band, ← pix]
    exact Store.read_write_same _ _ _
  · rw [storeBlock_band]
    exact Store.read_write_other _ _ other
  · rw [← reading]
    exact storeBlock_more more
  · exact storeBlock_last last

/-! ### The pixel visit -/

theorem emitPixel_eq_afterPixel (s : State) (p : Pixel) :
    ∃ out outp, emitPixel s p = afterPixel { s with out := out, outp := outp } := by
  unfold emitPixel
  split <;> exact ⟨_, _, rfl⟩

/-- Whatever a visit does to `OUT`, it then moves the counters and nothing else. -/
theorem visitPixel_eq_afterPixel (s : State) :
    ∃ out outp n, visitPixel s = afterPixel { s with out := out, outp := outp, freeCtr := n } := by
  obtain ⟨p, -, visit⟩ | ⟨-, visit⟩ := visitPixel_cases s
  · obtain ⟨out, outp, moved⟩ := emitPixel_eq_afterPixel s p
    exact ⟨out, outp, s.freeCtr, visit.trans moved⟩
  · obtain ⟨out, outp, moved⟩ := emitPixel_eq_afterPixel { s with freeCtr := s.freeCtr + 1 } (Config.freePixel s.freeCtr)
    exact ⟨out, outp, s.freeCtr + 1, visit.trans moved⟩

/-- A visit of a padding pixel only moves the counters (R144). -/
theorem visitPixel_padding {s : State} (padding : ¬ inImage s = true) :
    ∃ n, visitPixel s = afterPixel { s with freeCtr := n } := by
  obtain ⟨p, -, visit⟩ | ⟨-, visit⟩ := visitPixel_cases s
  · exact ⟨s.freeCtr, visit.trans (congrArg afterPixel (if_neg padding))⟩
  · exact ⟨s.freeCtr + 1, visit.trans (congrArg afterPixel (if_neg padding))⟩

/-- Settles O39: nothing is appended, and the counters are not named. -/
theorem visitDiscardsPadding : Obligations.VisitDiscardsPadding := by
  unfold Obligations.VisitDiscardsPadding
  intro s rest turn busy emitting outside
  have padding : ¬ inImage { s with host := rest } = true := by
    rw [inImage_iff]
    dsimp only
    omega
  obtain ⟨n, visit⟩ := visitPixel_padding padding
  refine ⟨_, step_visit turn busy emitting, ?_⟩
  simp [visit]

/-- The place of a visit in its band: `J` outermost, `K` innermost (R143). -/
def State.visitIndex (s : State) : Nat := (s.rowJ * s.xb + s.blockX) * 4 + s.colK

/-- The three loops are one count up to `16*XB`; the band ends at the last of them (R143, R146). -/
theorem afterPixel_visitIndex {s : State} (column : s.blockX < s.xb) (row : s.rowJ < 4) (col : s.colK < 4) :
    (s.visitIndex + 1 < 16 * s.xb ∧ (afterPixel s).status = s.status ∧ (afterPixel s).phase = s.phase ∧
      (afterPixel s).bandY = s.bandY ∧ (afterPixel s).band = s.band ∧ (afterPixel s).blockX < (afterPixel s).xb ∧
      (afterPixel s).rowJ < 4 ∧ (afterPixel s).colK < 4 ∧ (afterPixel s).visitIndex = s.visitIndex + 1) ∨
    (s.visitIndex + 1 = 16 * s.xb ∧ afterPixel s = afterBand s) := by
  have rows {n : Nat} (h : s.rowJ ≤ n) : s.rowJ * s.xb ≤ n * s.xb := Nat.mul_le_mul_right _ h
  unfold State.visitIndex
  obtain ⟨more, next⟩ | ⟨lastCol, more, next⟩ | ⟨lastCol, lastBlock, more, next⟩ | ⟨lastCol, lastBlock, lastRow, next⟩ :=
    afterPixel_cases s
  · have := rows (n := 3) (by omega)
    rw [next]
    exact .inl ⟨by omega, rfl, rfl, rfl, rfl, column, row, more, rfl⟩
  · have := rows (n := 3) (by omega)
    rw [next]
    exact .inl ⟨by omega, rfl, rfl, rfl, rfl, more, row, Nat.succ_pos 3, by dsimp only; omega⟩
  · have := rows (n := 2) (by omega)
    rw [next]
    refine .inl ⟨by omega, rfl, rfl, rfl, rfl, Nat.zero_lt_of_lt column, more, Nat.succ_pos 3, ?_⟩
    dsimp only
    rw [Nat.succ_mul]
    omega
  · have last : s.rowJ = 3 := by omega
    refine .inr ⟨?_, next⟩
    rw [last]
    omega

theorem afterBand_band (s : State) : (afterBand s).band = [] := by
  unfold afterBand
  split <;> rfl

/-- The release of a band: the next band's first read, or `DONE` (R146, R147). -/
theorem afterBand_spec (s : State) :
    (afterBand s).bandY = s.bandY + 1 ∧ (afterBand s).blockX = 0 ∧ (afterBand s).rowJ = 0 ∧
      (afterBand s).colK = 0 ∧ (s.bandY + 1 < s.yb → (afterBand s).status = s.status ∧ (afterBand s).phase = .read) ∧
      (s.yb ≤ s.bandY + 1 → (afterBand s).status = .done) := by
  unfold afterBand
  split
  case isTrue more => exact ⟨rfl, rfl, rfl, rfl, fun _ => ⟨rfl, rfl⟩, fun last => absurd more (Nat.not_lt.mpr last)⟩
  case isFalse last => exact ⟨rfl, rfl, rfl, rfl, fun more => absurd more last, fun _ => rfl⟩

/-- Settles O40: the count of the visits, and at its end the release of the band. -/
theorem emissionFollowsLoopOrder : Obligations.EmissionFollowsLoopOrder := by
  unfold Obligations.EmissionFollowsLoopOrder
  intro s rest turn busy emitting column row col
  obtain ⟨out, outp, n, visit⟩ := visitPixel_eq_afterPixel { s with host := rest }
  refine ⟨_, step_visit turn busy emitting, ?_⟩
  rw [visit, afterPixel_w, afterPixel_h]
  obtain ⟨inBand, status, phase, bandY, band, inside⟩ | ⟨last, next⟩ :=
    afterPixel_visitIndex (s := { s with host := rest, out := out, outp := outp, freeCtr := n }) column row col
  · refine ⟨rfl, rfl, afterPixel_xb _, afterPixel_yb _, fun _ => ?_, fun last => absurd inBand (Nat.not_lt.mpr last)⟩
    exact ⟨status.trans busy, phase.trans emitting, bandY, band, inside⟩
  · refine ⟨rfl, rfl, afterPixel_xb _, afterPixel_yb _, fun inBand => absurd last inBand.ne, fun _ => ?_⟩
    rw [next]
    obtain ⟨bandY, blockX, rowJ, colK, more, done⟩ :=
      afterBand_spec { s with host := rest, out := out, outp := outp, freeCtr := n }
    exact ⟨afterBand_band _, bandY, blockX, rowJ, colK, fun next => (more next).imp_left (·.trans busy), done⟩

end Sys2Proof.Machine
end

section
/-! # Proofs of 45_assembler.md sections 1 and 2: the checks of `START` and the decode it begins (R131 to R138) -/

namespace Sys2Proof.Machine

/-- Settles O28: the inferred height is a whole number of bands of blocks, as many as the declared blocks fill. -/
theorem inferredHeightAlwaysFits : Obligations.InferredHeightAlwaysFits := by
  unfold Obligations.InferredHeightAlwaysFits
  intro reqw len h
  generalize resolveWidth reqw len = w
  intro resolved
  have width : ceil4 w ≠ 0 := by
    intro none
    rw [(ceil4_eq_zero_iff w).mp none, resolveHeight_zero_zero] at resolved
    cases resolved
  rw [resolveHeight_zero len width, Option.some.injEq] at resolved
  have bands : (h + 3) / 4 = len / 8 / ceil4 w := by omega
  have blocks : ceil4 w * (len / 8 / ceil4 w) ≤ len / 8 := Nat.mul_div_le _ _
  rw [bands]
  change ceil4 w * (len / 8 / ceil4 w) * 8 ≤ len
  omega

/-- The bytes of a size that fits 32 bits are a number that fits the 64-bit error register. -/
theorem requiredBytes_lt {w h : Nat} (wFits : w < 2 ^ 32) (hFits : h < 2 ^ 32) : requiredBytes w h < 2 ^ 64 := by
  have columns : ceil4 w ≤ 2 ^ 30 := by unfold ceil4; omega
  have bands : ceil4 h ≤ 2 ^ 30 := by unfold ceil4; omega
  have blocks : ceil4 w * ceil4 h ≤ 2 ^ 30 * 2 ^ 30 := Nat.mul_le_mul columns bands
  unfold requiredBytes
  omega

/-- Settles O30: more required than declared bytes leave one outcome, whose numbers fit their registers. -/
theorem startChecksDeclaredLength : Obligations.StartChecksDeclaredLength := by
  unfold Obligations.StartChecksDeclaredLength
  intro g s h accepted asked wFits hFits tooShort
  obtain ⟨-, ran⟩ | ⟨declared, -⟩ := start_fitting_cases g accepted asked wFits hFits
  · refine ⟨_, ran, rfl, rfl, ?_, ?_, ?_, ?_, rfl⟩
    · exact (BitVec.toNat_ofNat _ _).trans (Nat.mod_eq_of_lt (requiredBytes_lt wFits hFits))
    · exact BitVec.ofNat_toNat _ _ |>.trans (BitVec.setWidth_eq _)
    · exact (BitVec.toNat_ofNat _ _).trans (Nat.mod_eq_of_lt wFits)
    · exact (BitVec.toNat_ofNat _ _).trans (Nat.mod_eq_of_lt hFits)
  · exact absurd tooShort (Nat.not_lt.mpr declared)

theorem exceeds_eq_false_of_le {cap : Option Nat} {n : Nat} (within : ∀ c, cap = some c → n ≤ c) :
    exceeds cap n = false := by
  rw [← Bool.not_eq_true, exceeds_eq_true_iff]
  rintro ⟨c, isCap, more⟩
  exact absurd more (Nat.not_lt.mpr (within c isCap))

/-- Settles O32: with every check passed only the traversal's beginning is left. -/
theorem startBeginsDecode : Obligations.StartBeginsDecode := by
  unfold Obligations.StartBeginsDecode
  intro g s h accepted asked wFits hFits declared band out
  obtain ⟨tooShort, -⟩ | ⟨-, ⟨excess, -⟩ | ⟨-, ran⟩⟩ := start_fitting_cases g accepted asked wFits hFits
  · exact absurd tooShort (Nat.not_lt.mpr declared)
  · rw [ceil4, exceeds_eq_false_of_le band, exceeds_eq_false_of_le out] at excess
    simp at excess
  · rw [ran]
    refine congrArg _ ?_
    unfold beginTraversal
    split
    case isTrue empty =>
      have noBlock : (s.askedWidth + 3) / 4 * ((h + 3) / 4) = 0 := empty
      rw [if_pos noBlock]
      rfl
    case isFalse blocks =>
      have aBlock : ¬ (s.askedWidth + 3) / 4 * ((h + 3) / 4) = 0 := blocks
      rw [if_neg aBlock]
      rfl

/-- What the checks of `START` leave as it is; the two buffers they leave or empty (log entry 4). -/
structure State.Checked (s t : State) : Prop where
  reqWidth : t.reqWidth = s.reqWidth
  reqHeight : t.reqHeight = s.reqHeight
  streamLen : t.streamLen = s.streamLen
  stream : t.stream = s.stream
  par : t.par = s.par
  dp : t.dp = s.dp
  host : t.host = s.host
  rdata : t.rdata = s.rdata
  freeCtr : t.freeCtr = s.freeCtr
  pos : t.pos = s.pos
  outp : t.outp = s.outp
  phase : t.phase = s.phase
  bandY : t.bandY = s.bandY
  blockX : t.blockX = s.blockX
  out : s.out = [] → t.out = []
  band : s.band = [] → t.band = []

theorem checked_resolveAndCheck (s : State) : s.Checked (resolveAndCheck s) := by
  obtain ⟨-, outcome⟩ | ⟨w, h, -, -, ⟨-, outcome⟩ | ⟨-, ⟨-, outcome⟩ | ⟨-, ⟨-, outcome⟩ | ⟨-, outcome⟩⟩⟩⟩ := resolveAndCheck_cases s
  all_goals
    rw [outcome]
    constructor <;> simp

/-- Settles O33: the entry and the checks, or while `BUSY` nothing. -/
theorem startFrame : Obligations.StartFrame := by
  unfold Obligations.StartFrame
  intro g s t ran
  by_cases busy : s.status = .busy
  · cases ran.symm.trans (start_ignored g busy)
    exact ⟨rfl, rfl, rfl, rfl, rfl, rfl, rfl, rfl, rfl, fun _ => rfl, fun accepted => absurd busy accepted⟩
  · cases ran.symm.trans (start_accepted g busy)
    have checked := checked_resolveAndCheck (startEntry s)
    refine ⟨checked.reqWidth, checked.reqHeight, checked.streamLen, checked.stream, checked.par, checked.dp, checked.host,
      checked.rdata, checked.freeCtr, fun isBusy => absurd isBusy busy, fun _ => ⟨fun a => ?_, fun x => ?_, checked.pos, checked.outp⟩⟩
    · rw [checked.out rfl]
      rfl
    · rw [checked.band rfl]
      rfl

end Sys2Proof.Machine
end

section
/-! # Proofs of 45_assembler.md section 4 and 60_exceptions.md: how many steps a decode takes, and how it ends on a whole stream and
on a short one (R148, R149, R181) -/

namespace Sys2Proof.Machine

/-! ### The steps made so far -/

/-- The steps since `START` in the configuration `s` is in: 17 for each block of the bands above, one for each block read of this
band, one for each visit. -/
def State.progress (s : State) : Nat :=
  match s.phase with
  | .read => 17 * (s.bandY * s.xb) + s.blockX
  | .emit => 17 * (s.bandY * s.xb) + s.xb + s.visitIndex

theorem progress_of_read {s : State} (phase : s.phase = .read) : s.progress = 17 * (s.bandY * s.xb) + s.blockX := by
  simp only [State.progress, phase]

theorem progress_of_emit {s : State} (phase : s.phase = .emit) :
    s.progress = 17 * (s.bandY * s.xb) + s.xb + s.visitIndex := by
  simp only [State.progress, phase]

/-- A band that is not the last ends before the last band does. -/
theorem band_le {bandY xb yb : Nat} (band : bandY < yb) : bandY * xb + xb ≤ xb * yb := by
  rw [← Nat.succ_mul, Nat.mul_comm xb]
  exact Nat.mul_le_mul_right _ band

theorem visitIndex_lt {s : State} (column : s.blockX < s.xb) (row : s.rowJ < 4) (col : s.colK < 4) :
    s.visitIndex < 16 * s.xb := by
  have rows : s.rowJ * s.xb ≤ 3 * s.xb := Nat.mul_le_mul_right _ (by omega)
  unfold State.visitIndex
  omega

/-- A running decode has steps left. -/
theorem progress_lt {s : State} (inv : s.Inv) (busy : s.status = .busy) : s.progress < 17 * (s.xb * s.yb) := by
  cases phase : s.phase with
  | read =>
    obtain ⟨-, -, band, column, -⟩ := (inv_read_iff busy phase).mp inv
    have := band_le (xb := s.xb) band
    rw [progress_of_read phase]
    omega
  | emit =>
    obtain ⟨-, -, band, column, row, col, -⟩ := (inv_emit_iff busy phase).mp inv
    have := band_le (xb := s.xb) band
    have := visitIndex_lt column row col
    rw [progress_of_emit phase]
    omega

/-! ### What a decode keeps -/

/-- What a state has of its size, its stream, its parameters and the host's moves, which a decode keeps (R138). -/
structure State.SameRun (s t : State) : Prop where
  w : t.w = s.w
  h : t.h = s.h
  xb : t.xb = s.xb
  yb : t.yb = s.yb
  resWidth : t.resWidth = s.resWidth
  resHeight : t.resHeight = s.resHeight
  stream : t.stream = s.stream
  par : t.par = s.par
  host : t.host = s.host

theorem State.SameRun.trans {s t u : State} (first : s.SameRun t) (second : t.SameRun u) : s.SameRun u :=
  ⟨second.w.trans first.w, second.h.trans first.h, second.xb.trans first.xb, second.yb.trans first.yb,
    second.resWidth.trans first.resWidth, second.resHeight.trans first.resHeight, second.stream.trans first.stream,
    second.par.trans first.par, second.host.trans first.host⟩

theorem sameRun_storeBlock (s : State) : s.SameRun (storeBlock s) :=
  ⟨storeBlock_w s, storeBlock_h s, storeBlock_xb s, storeBlock_yb s, storeBlock_resWidth s, storeBlock_resHeight s,
    storeBlock_stream s, storeBlock_par s, storeBlock_host s⟩

theorem sameRun_afterPixel (s : State) : s.SameRun (afterPixel s) :=
  ⟨afterPixel_w s, afterPixel_h s, afterPixel_xb s, afterPixel_yb s, afterPixel_resWidth s, afterPixel_resHeight s,
    afterPixel_stream s, afterPixel_par s, afterPixel_host s⟩

/-- A running decode that the host leaves alone, and whose blocks so far are in the stream. -/
structure State.Decoding (s : State) : Prop where
  inv : s.Inv
  busy : s.status = .busy
  alone : s.host = []
  within : s.pos ≤ s.stream.length

theorem State.Decoding.progress_lt {s : State} (decoding : s.Decoding) : s.progress < 17 * (s.xb * s.yb) :=
  Machine.progress_lt decoding.inv decoding.busy

/-! ### One step of a decode -/

/-- How a running decode goes on: a step further, in `DONE` after the last one, or in the error of a short read. -/
inductive State.GoesOn (s u : State) : Prop where
  | further (decoding : u.Decoding) (next : u.progress = s.progress + 1)
  | finished (done : u.status = .done) (last : s.progress + 1 = 17 * (s.xb * s.yb)) (within : u.pos ≤ u.stream.length)
  | short (reading : s.Reading) (missing : s.stream.length < s.pos + 8) (raised : u = raise s .shortRead (s.pos + 8) s.stream.length)

/-- A whole block at `POS` in a gapless stream ends within it. -/
theorem pos_add_le_of_fetched {m : Memory} {pos : Nat} {w : Block} (gapless : Gapless m)
    (fetched : blockOfBytes (memRead m pos 8) = some w) : pos + 8 ≤ m.length := by
  have bytes := blockOfBytes_isSome_iff (memRead m pos 8)
  rw [fetched, memRead_length_of_gapless gapless, eq_comm, Option.isSome_some, decide_eq_true_iff] at bytes
  omega

theorem lt_pos_add_of_short {m : Memory} {pos : Nat} (gapless : Gapless m)
    (short : blockOfBytes (memRead m pos 8) = none) : m.length < pos + 8 := by
  have bytes := blockOfBytes_isSome_iff (memRead m pos 8)
  rw [short, memRead_length_of_gapless gapless, eq_comm, Option.isSome_none, decide_eq_false_iff_not] at bytes
  omega

/-- A stored block is one step. -/
theorem progress_storeBlock {s : State} (phase : s.phase = .read) (column : s.blockX < s.xb) :
    (storeBlock s).progress = s.progress + 1 := by
  by_cases more : s.blockX + 1 < s.xb
  · obtain ⟨phase', blockX⟩ := storeBlock_more more
    rw [progress_of_read (phase'.trans phase), progress_of_read phase, blockX, storeBlock_bandY, storeBlock_xb]
    rfl
  · obtain ⟨phase', blockX, rowJ, colK⟩ := storeBlock_last (Nat.not_lt.mp more)
    rw [progress_of_emit phase', progress_of_read phase, State.visitIndex, blockX, rowJ, colK, storeBlock_bandY, storeBlock_xb]
    omega

/-- A visit is one step, and the last one of the last band the last. -/
theorem progress_afterPixel {s : State} (phase : s.phase = .emit) (band : s.bandY < s.yb) (column : s.blockX < s.xb)
    (row : s.rowJ < 4) (col : s.colK < 4) :
    (afterPixel s).status = s.status ∧ (afterPixel s).progress = s.progress + 1 ∨
      (afterPixel s).status = .done ∧ s.progress + 1 = 17 * (s.xb * s.yb) := by
  rw [progress_of_emit phase]
  obtain ⟨inBand, status, phase', bandY, -, -, -, -, index⟩ | ⟨last, next⟩ := afterPixel_visitIndex column row col
  · refine .inl ⟨status, ?_⟩
    rw [progress_of_emit (phase'.trans phase), bandY, index, afterPixel_xb]
    rfl
  · have nextBand : (s.bandY + 1) * s.xb = s.bandY * s.xb + s.xb := Nat.succ_mul _ _
    obtain ⟨bandY, blockX, -, -, more, done⟩ := afterBand_spec s
    rw [next]
    by_cases lastBand : s.bandY + 1 < s.yb
    · obtain ⟨status, phase'⟩ := more lastBand
      refine .inl ⟨status, ?_⟩
      rw [progress_of_read phase', bandY, blockX, afterBand_xb]
      omega
    · have all : s.yb = s.bandY + 1 := by omega
      refine .inr ⟨done all.le, ?_⟩
      rw [all, Nat.mul_comm s.xb]
      omega

theorem State.Decoding.turn {s : State} (decoding : s.Decoding) : s.CoreTurn [] := .inl ⟨decoding.alone, rfl⟩

theorem withHost_of_alone {s : State} (alone : s.host = []) : { s with host := [] } = s := by rw [← alone]

theorem step_decoding_read {s : State} (decoding : s.Decoding) (phase : s.phase = .read) :
    ∃ u, step s = .next u ∧ s.SameRun u ∧ s.GoesOn u := by
  have turn := decoding.turn
  obtain ⟨inv, busy, alone, within⟩ := decoding
  obtain ⟨⟨gapless, -⟩, -, reading⟩ := (inv_read_iff busy phase).mp inv
  obtain ⟨-, column, -⟩ := id reading
  cases fetched : blockOfBytes (memRead s.stream s.pos 8) with
  | some w =>
    obtain ⟨d, -, -, stepped⟩ := step_block turn busy phase fetched
    have same := sameRun_storeBlock { s with host := [], pos := s.pos + 8, dp := d }
    have frame : s.SameRun (storeBlock { s with host := [], pos := s.pos + 8, dp := d }) :=
      ⟨same.w, same.h, same.xb, same.yb, same.resWidth, same.resHeight, same.stream, same.par, same.host.trans alone.symm⟩
    refine ⟨_, stepped, frame, .further ⟨stepKeepsInvariant s _ inv stepped, (storeBlock_status _).trans busy,
      frame.host.trans alone, ?_⟩ (progress_storeBlock phase column)⟩
    rw [storeBlock_pos, storeBlock_stream]
    exact pos_add_le_of_fetched gapless fetched
  | none =>
    have missing := lt_pos_add_of_short gapless fetched
    have stepped := step_shortRead turn busy phase fetched
    have available : s.pos + (memRead s.stream s.pos 8).length = s.stream.length := by
      rw [memRead_length_of_gapless gapless]
      omega
    rw [withHost_of_alone alone, available] at stepped
    exact ⟨_, stepped, ⟨rfl, rfl, rfl, rfl, rfl, rfl, rfl, rfl, rfl⟩, .short reading missing rfl⟩

theorem step_decoding_visit {s : State} (decoding : s.Decoding) (phase : s.phase = .emit) :
    ∃ u, step s = .next u ∧ s.SameRun u ∧ s.GoesOn u := by
  have turn := decoding.turn
  obtain ⟨inv, busy, alone, within⟩ := decoding
  obtain ⟨-, -, band, column, row, col, -⟩ := (inv_emit_iff busy phase).mp inv
  have stepped := step_visit turn busy phase
  obtain ⟨out, outp, n, visit⟩ := visitPixel_eq_afterPixel s
  rw [withHost_of_alone alone, visit] at stepped
  have same := sameRun_afterPixel { s with out := out, outp := outp, freeCtr := n }
  have within' : (afterPixel { s with out := out, outp := outp, freeCtr := n }).pos ≤
      (afterPixel { s with out := out, outp := outp, freeCtr := n }).stream.length := by
    rw [afterPixel_pos, afterPixel_stream]
    exact within
  refine ⟨_, stepped, ⟨same.w, same.h, same.xb, same.yb, same.resWidth, same.resHeight, same.stream, same.par, same.host⟩, ?_⟩
  obtain ⟨status, next⟩ | ⟨done, last⟩ :=
    progress_afterPixel (s := { s with out := out, outp := outp, freeCtr := n }) phase band column row col
  · exact .further ⟨stepKeepsInvariant s _ inv stepped, status.trans busy, same.host.trans alone, within'⟩ next
  · exact .finished done last within'

theorem step_decoding {s : State} (decoding : s.Decoding) : ∃ u, step s = .next u ∧ s.SameRun u ∧ s.GoesOn u := by
  cases phase : s.phase with
  | read => exact step_decoding_read decoding phase
  | emit => exact step_decoding_visit decoding phase

/-! ### Runs of a decode -/

theorem core_run_succ (M : Host.Core) {s u : M.State} (n : Nat) (stepped : M.step s = .next u) :
    M.run (n + 1) s = M.run n u := by
  rw [Host.Core.run, stepped]

theorem run_succ {s u : State} (n : Nat) (stepped : step s = .next u) :
    Host.Core.run core (n + 1) s = Host.Core.run core n u :=
  core_run_succ core n stepped

/-- An accepted `START` that leaves the core `BUSY` has begun a decode at its first step (R138). -/
theorem decoding_of_start {g : BitVec 31} {s t : State} (accepted : s.status ≠ .busy) (alone : s.host = [])
    (gapless : Gapless s.stream) (ran : exec (.start g) s = .next t) (busy : t.status = .busy) :
    t.Decoding ∧ t.progress = 0 ∧ t.stream = s.stream ∧ t.par = s.par := by
  cases ran.symm.trans (start_accepted g accepted)
  have checked := checked_resolveAndCheck (startEntry s)
  refine ⟨⟨inv_start gapless, busy, checked.host.trans alone, ?_⟩, ?_, checked.stream, checked.par⟩
  · rw [checked.pos]
    exact Nat.zero_le _
  · rw [progress_of_read checked.phase, checked.bandY, checked.blockX, startEntry_bandY, startEntry_blockX, Nat.zero_mul]

/-- On a stream that holds every block a decode is `BUSY` after any number of steps below `17*XB*YB`. -/
theorem run_before_done {s : State} {k : Nat} (decoding : s.Decoding) (whole : 8 * (s.xb * s.yb) ≤ s.stream.length)
    (before : s.progress + k < 17 * (s.xb * s.yb)) : ∃ v, Host.Core.run core k s = .next v ∧ v.status = .busy := by
  induction k generalizing s with
  | zero => exact ⟨s, rfl, decoding.busy⟩
  | succ k ih =>
    obtain ⟨u, stepped, frame, goesOn⟩ := step_decoding decoding
    rw [run_succ k stepped]
    cases goesOn with
    | further decoding' next =>
      refine ih decoding' ?_ ?_
      · rwa [frame.xb, frame.yb, frame.stream]
      · rw [next, frame.xb, frame.yb]
        omega
    | finished done last => omega
    | short reading missing => have := reading_pos_le reading; omega

/-- The step numbered `17*XB*YB` ends it in `DONE` with the whole image. -/
theorem run_to_done {s : State} {k : Nat} (decoding : s.Decoding) (whole : 8 * (s.xb * s.yb) ≤ s.stream.length)
    (last : s.progress + (k + 1) = 17 * (s.xb * s.yb)) :
    ∃ u, Host.Core.run core (k + 1) s = .next u ∧ s.SameRun u ∧ u.status = .done ∧ u.HoldsImage ∧
      u.outp = u.w * u.h * 3 ∧ u.pos = u.xb * u.yb * 8 := by
  induction k generalizing s with
  | zero =>
    obtain ⟨u, stepped, frame, goesOn⟩ := step_decoding decoding
    rw [run_succ 0 stepped]
    cases goesOn with
    | further decoding' next =>
      have := decoding'.progress_lt
      rw [next, frame.xb, frame.yb] at this
      omega
    | finished done =>
      obtain ⟨image, outp, pos, -⟩ := decodeEndsWithWholeImage s u decoding.inv decoding.busy stepped done
      exact ⟨u, rfl, frame, done, image, outp, pos⟩
    | short reading missing => have := reading_pos_le reading; omega
  | succ k ih =>
    obtain ⟨u, stepped, frame, goesOn⟩ := step_decoding decoding
    rw [run_succ (k + 1) stepped]
    cases goesOn with
    | further decoding' next =>
      obtain ⟨v, ran, frame', rest⟩ := ih decoding' (by rwa [frame.xb, frame.yb, frame.stream])
        (by rw [next, frame.xb, frame.yb]; omega)
      exact ⟨v, ran, frame.trans frame', rest⟩
    | finished done last => omega
    | short reading missing => have := reading_pos_le reading; omega

/-- Settles O59: a decode begins with no step made, and every step but the last is followed by another. -/
theorem admittedDecodeReachesDone : Obligations.AdmittedDecodeReachesDone := by
  unfold Obligations.AdmittedDecodeReachesDone
  intro g s t accepted alone gapless ran busy whole
  obtain ⟨decoding, first, stream, par⟩ := decoding_of_start accepted alone gapless ran busy
  rw [← stream] at whole
  refine ⟨fun k before => run_before_done decoding whole (by omega), ?_⟩
  have steps := decoding.progress_lt
  obtain ⟨k, count⟩ : ∃ k, 17 * (t.xb * t.yb) = k + 1 := ⟨17 * (t.xb * t.yb) - 1, by omega⟩
  obtain ⟨u, ran', frame, done, image, outp, pos⟩ := run_to_done (k := k) decoding whole (by omega)
  rw [frame.w, frame.h] at outp
  rw [frame.xb, frame.yb] at pos
  rw [count]
  exact ⟨u, ran', done, image, outp, pos, frame.w, frame.h, frame.stream.trans stream, frame.par.trans par⟩

/-- The two numbers of a short read: the length of the stream, and the end of its first block that is not whole (R142). -/
theorem shortRead_numbers {s : State} (decoding : s.Decoding) (reading : s.Reading)
    (missing : s.stream.length < s.pos + 8) :
    (raise s .shortRead (s.pos + 8) s.stream.length).errAvailable.toNat = s.stream.length ∧
    (raise s .shortRead (s.pos + 8) s.stream.length).errRequired.toNat = 8 * (s.stream.length / 8) + 8 := by
  obtain ⟨inv, busy, -, within⟩ := decoding
  have wanted := reading_pos_le reading
  obtain ⟨-, -, -, -, pos, -⟩ := reading
  obtain ⟨-, -, -, -, declared, -⟩ := running_of_inv inv busy
  have fits := s.streamLen.isLt
  rw [raise_errAvailable, raise_errRequired, BitVec.toNat_ofNat, BitVec.toNat_ofNat]
  omega

/-- On a stream that lacks a block a decode ends in a short read before it can end in `DONE`. -/
theorem run_to_shortRead {s : State} {k : Nat} (decoding : s.Decoding) (lacking : s.stream.length < 8 * (s.xb * s.yb))
    (left : s.progress + k = 17 * (s.xb * s.yb)) :
    ∃ n u, Host.Core.run core n s = .next u ∧ s.SameRun u ∧ u.status = .error ∧ u.errKind = .shortRead ∧
      u.errAvailable.toNat = s.stream.length ∧ u.errRequired.toNat = 8 * (s.stream.length / 8) + 8 := by
  induction k generalizing s with
  | zero => exact absurd left decoding.progress_lt.ne
  | succ k ih =>
    obtain ⟨u, stepped, frame, goesOn⟩ := step_decoding decoding
    cases goesOn with
    | further decoding' next =>
      obtain ⟨n, v, ran, frame', rest⟩ := ih decoding' (by rwa [frame.xb, frame.yb, frame.stream])
        (by rw [next, frame.xb, frame.yb]; omega)
      rw [frame.stream] at rest
      exact ⟨n + 1, v, (run_succ n stepped).trans ran, frame.trans frame', rest⟩
    | finished done last within =>
      obtain ⟨-, -, -, pos, -⟩ := (inv_done_iff done).mp (stepKeepsInvariant s u decoding.inv stepped)
      rw [pos, frame.xb, frame.yb, frame.stream] at within
      exact absurd lacking (Nat.not_lt.mpr within)
    | short reading missing raised =>
      subst raised
      obtain ⟨available, required⟩ := shortRead_numbers decoding reading missing
      exact ⟨1, _, run_succ 0 stepped, frame, rfl, rfl, available, required⟩

/-- Settles O60: the decode begins within the stream, and reads on until a block is missing. -/
theorem shortStreamReachesShortRead : Obligations.ShortStreamReachesShortRead := by
  unfold Obligations.ShortStreamReachesShortRead
  intro g s t accepted alone gapless ran busy lacking
  obtain ⟨decoding, first, stream, -⟩ := decoding_of_start accepted alone gapless ran busy
  rw [← stream] at lacking ⊢
  obtain ⟨n, u, ran', frame, error, kind, available, required⟩ :=
    run_to_shortRead (k := 17 * (t.xb * t.yb)) decoding lacking (by omega)
  exact ⟨n, u, ran', error, kind, available, required, frame.resWidth, frame.resHeight⟩

end Sys2Proof.Machine
end

section
/-! # Proofs of 10_state.md section 6 and 70_reset_and_hazards.md section 1: what no decode observes has no influence (R26, R171) -/

namespace Sys2Proof.Machine

/-! ### `SameDecode` is kept by the operations -/

theorem sameDecode_iff (a b : State) : SameDecode a b ↔ ∃ d r n, b = { a with dp := d, rdata := r, freeCtr := n } := by
  constructor
  · intro same
    exact ⟨_, _, _, same⟩
  · rintro ⟨d, r, n, rfl⟩
    rfl

section
variable {a b : State} (same : SameDecode a b)
include same

theorem sameDecode_withHost (rest : List HostOp) : SameDecode { a with host := rest } { b with host := rest } := by
  obtain ⟨d, r, n, rfl⟩ := (sameDecode_iff a b).mp same
  rfl

theorem sameDecode_raise (kind : ErrKind) (required available : Nat) :
    SameDecode (raise a kind required available) (raise b kind required available) := by
  obtain ⟨d, r, n, rfl⟩ := (sameDecode_iff a b).mp same
  rfl

theorem sameDecode_startEntry : SameDecode (startEntry a) (startEntry b) := by
  obtain ⟨d, r, n, rfl⟩ := (sameDecode_iff a b).mp same
  rfl

theorem sameDecode_publish (w h : Nat) : SameDecode (publish a w h) (publish b w h) := by
  obtain ⟨d, r, n, rfl⟩ := (sameDecode_iff a b).mp same
  rfl

theorem sameDecode_resetCore : SameDecode (resetCore a) (resetCore b) := by
  obtain ⟨d, r, n, rfl⟩ := (sameDecode_iff a b).mp same
  rfl

theorem sameDecode_beginTraversal : SameDecode (beginTraversal a) (beginTraversal b) := by
  obtain ⟨d, r, n, rfl⟩ := (sameDecode_iff a b).mp same
  unfold beginTraversal
  dsimp only
  split <;> rfl

theorem sameDecode_csrWrite (reg : Nat) (v : BitVec 64) : SameDecode (csrWrite a reg v) (csrWrite b reg v) := by
  obtain ⟨d, r, n, rfl⟩ := (sameDecode_iff a b).mp same
  unfold csrWrite
  dsimp only
  split
  · rfl
  · split <;> rfl

theorem sameDecode_afterBlock : SameDecode (afterBlock a) (afterBlock b) := by
  obtain ⟨d, r, n, rfl⟩ := (sameDecode_iff a b).mp same
  unfold afterBlock
  dsimp only
  split <;> rfl

theorem sameDecode_storeBlock (pix : a.dp.pix = b.dp.pix) : SameDecode (storeBlock a) (storeBlock b) := by
  obtain ⟨d, r, n, rfl⟩ := (sameDecode_iff a b).mp same
  refine sameDecode_afterBlock ((sameDecode_iff _ _).mpr ⟨d, r, n, ?_⟩)
  rw [pix]

theorem sameDecode_afterBand : SameDecode (afterBand a) (afterBand b) := by
  obtain ⟨d, r, n, rfl⟩ := (sameDecode_iff a b).mp same
  unfold afterBand
  dsimp only
  split <;> rfl

theorem sameDecode_afterPixel : SameDecode (afterPixel a) (afterPixel b) := by
  have band := sameDecode_afterBand same
  obtain ⟨d, r, n, rfl⟩ := (sameDecode_iff a b).mp same
  unfold afterPixel
  dsimp only
  split
  · rfl
  · split
    · rfl
    · split
      · rfl
      · exact band

theorem sameDecode_emitPixel (p : Pixel) : SameDecode (emitPixel a p) (emitPixel b p) := by
  refine sameDecode_afterPixel ?_
  obtain ⟨d, r, n, rfl⟩ := (sameDecode_iff a b).mp same
  unfold inImage
  dsimp only
  split <;> rfl

end

/-! ### What `START` depends on -/

/-- The checks of `START` on two states with the same requests and parameters take the same branch. They are related alike if the
error entry is, which is taken before a size is published, and if any two states that a decode cannot tell apart are. -/
theorem resolveAndCheck_rel {R : State → State → Prop} {a b : State} (width : a.reqWidth = b.reqWidth)
    (height : a.reqHeight = b.reqHeight) (len : a.streamLen = b.streamLen) (par : a.par = b.par)
    (unpublished : ∀ n, R (raise a .invalidResolution 0 n) (raise b .invalidResolution 0 n))
    (published : ∀ w h, SameDecode (publish a w h) (publish b w h)) (sub : ∀ x y, SameDecode x y → R x y) :
    R (resolveAndCheck a) (resolveAndCheck b) := by
  unfold resolveAndCheck
  rw [width, height, len]
  split
  · exact unpublished _
  · unfold checkAndBegin
    rw [par]
    split
    · exact unpublished _
    · split
      · exact sub _ _ (sameDecode_raise (published _ _) _ _ _)
      · split
        · exact sub _ _ (sameDecode_raise (published _ _) _ _ _)
        · exact sub _ _ (sameDecode_beginTraversal (published _ _))

theorem sameDecode_resolveAndCheck {a b : State} (same : SameDecode a b) :
    SameDecode (resolveAndCheck a) (resolveAndCheck b) := by
  have raised := sameDecode_raise same .invalidResolution 0
  have published := sameDecode_publish same
  obtain ⟨d, r, n, rfl⟩ := (sameDecode_iff a b).mp same
  exact resolveAndCheck_rel rfl rfl rfl rfl raised published fun _ _ => id

/-- Two states after `START`: the host reads the same of them, and a decode that has begun is the same. -/
def StartedAlike (a b : State) : Prop :=
  a.status = b.status ∧ a.errKind = b.errKind ∧ a.errRequired = b.errRequired ∧ a.errAvailable = b.errAvailable ∧
    a.resWidth = b.resWidth ∧ a.resHeight = b.resHeight ∧ (a.status ≠ .error → SameDecode a b)

theorem startedAlike_of_sameDecode {a b : State} (same : SameDecode a b) : StartedAlike a b := by
  obtain ⟨d, r, n, rfl⟩ := (sameDecode_iff a b).mp same
  exact ⟨rfl, rfl, rfl, rfl, rfl, rfl, fun _ => rfl⟩

/-- Settles O34: the entry clears all but the sizes, which an unpublished error leaves and a publication writes. -/
theorem startForgetsHistory : Obligations.StartForgetsHistory := by
  unfold Obligations.StartForgetsHistory
  intro g a b acceptedA acceptedB width height len stream par host
  have alike : StartedAlike (resolveAndCheck (startEntry a)) (resolveAndCheck (startEntry b)) := by
    refine resolveAndCheck_rel width height len par (fun n => ?_) (fun w h => ?_) fun _ _ => startedAlike_of_sameDecode
    · exact ⟨rfl, rfl, rfl, rfl, rfl, rfl, fun noError => absurd rfl noError⟩
    · unfold SameDecode publish startEntry
      simp only [width, height, len, stream, par, host]
  exact ⟨_, _, start_accepted g acceptedA, start_accepted g acceptedB, alike⟩

/-! ### What a step depends on -/

section
variable {a b : State} (same : SameDecode a b)
include same

theorem sameDecode_status : b.status = a.status := by rw [same]

theorem sameDecode_host : b.host = a.host := by rw [same]

theorem sameDecode_coreTurn {rest : List HostOp} (turn : a.CoreTurn rest) : b.CoreTurn rest := by
  rw [same]
  exact turn

/-- The step of a block read writes all that it reads of the datapath, and a short read reads none of it. -/
theorem sameDecode_step_read {rest : List HostOp} (turn : a.CoreTurn rest) (busy : a.status = .busy) (phase : a.phase = .read) :
    ∃ ta tb, step a = .next ta ∧ step b = .next tb ∧ SameDecode ta tb := by
  have turn' := sameDecode_coreTurn same turn
  have busy' := (sameDecode_status same).trans busy
  have phase' : b.phase = .read := by rw [same]; exact phase
  have bytes : memRead b.stream b.pos 8 = memRead a.stream a.pos 8 := by rw [same]
  have pos : b.pos = a.pos := by rw [same]
  have par : b.par = a.par := by rw [same]
  cases fetched : blockOfBytes (memRead a.stream a.pos 8) with
  | some w =>
    obtain ⟨da, -, pixA, steppedA⟩ := step_block turn busy phase fetched
    obtain ⟨db, -, pixB, steppedB⟩ := step_block turn' busy' phase' (bytes ▸ fetched)
    refine ⟨_, _, steppedA, steppedB, sameDecode_storeBlock ?_ (pixA.trans (par ▸ pixB.symm))⟩
    rw [pos]
    obtain ⟨d, r, n, rfl⟩ := (sameDecode_iff a b).mp same
    exact (sameDecode_iff _ _).mpr ⟨db, r, n, rfl⟩
  | none =>
    have raised := sameDecode_raise (sameDecode_withHost same rest) .shortRead (a.pos + 8)
      (a.pos + (memRead a.stream a.pos 8).length)
    refine ⟨_, _, step_shortRead turn busy phase fetched, step_shortRead turn' busy' phase' (bytes ▸ fetched), ?_⟩
    rw [pos] at raised
    rw [bytes, pos]
    exact raised

/-- The slot that a visit of a run reads holds a pixel, so no free value is taken. -/
theorem sameDecode_step_visit {rest : List HostOp} (inv : a.Inv) (turn : a.CoreTurn rest) (busy : a.status = .busy)
    (phase : a.phase = .emit) : ∃ ta tb, step a = .next ta ∧ step b = .next tb ∧ SameDecode ta tb := by
  obtain ⟨-, -, -, column, row, col, -, -, slots, -⟩ := (inv_emit_iff busy phase).mp inv
  obtain ⟨w, -, stored⟩ := slots _ column
  obtain ⟨p, pixel⟩ := tileGet_isSome (t := decodeTile a.par w) (show a.colK * 4 + a.rowJ < 16 by omega)
  have emitted := sameDecode_emitPixel (sameDecode_withHost same rest) p
  obtain ⟨d, r, n, rfl⟩ := (sameDecode_iff a b).mp same
  rw [← visitPixel_of_stored (s := { a with host := rest }) stored pixel,
    ← visitPixel_of_stored (s := { a with dp := d, rdata := r, freeCtr := n, host := rest }) stored pixel] at emitted
  exact ⟨_, _, step_visit turn busy phase, step_visit (s := { a with dp := d, rdata := r, freeCtr := n }) turn busy phase,
    emitted⟩

theorem sameDecode_step_coreTurn {rest : List HostOp} (inv : a.Inv) (turn : a.CoreTurn rest) :
    ∃ ta tb, step a = .next ta ∧ step b = .next tb ∧ SameDecode ta tb := by
  by_cases busy : a.status = .busy
  · cases phase : a.phase with
    | read => exact sameDecode_step_read same turn busy phase
    | emit => exact sameDecode_step_visit same inv turn busy phase
  · have busy' : b.status ≠ .busy := by rwa [sameDecode_status same]
    exact ⟨_, _, step_quiet turn busy, step_quiet (sameDecode_coreTurn same turn) busy', sameDecode_withHost same rest⟩

/-- A host read of `OUT` answers alike, but for a free byte, or faults alike. -/
theorem sameDecode_hostReadOut (addr : Nat) :
    (∃ ta tb, hostReadOut a addr = .next ta ∧ hostReadOut b addr = .next tb ∧ SameDecode ta tb) ∨
      hostReadOut a addr = .fault (.outAddress addr) ∧ hostReadOut b addr = .fault (.outAddress addr) := by
  obtain ⟨d, r, n, rfl⟩ := (sameDecode_iff a b).mp same
  unfold hostReadOut
  dsimp only
  split
  · split
    · split
      · exact .inl ⟨_, _, rfl, rfl, rfl⟩
      · exact .inl ⟨_, _, rfl, rfl, rfl⟩
    · exact .inr ⟨rfl, rfl⟩
  · exact .inl ⟨_, _, rfl, rfl, rfl⟩

theorem sameDecode_hostSupply (bytes : List Byte) :
    (∃ ta tb, hostSupply a bytes = .next ta ∧ hostSupply b bytes = .next tb ∧ SameDecode ta tb) ∨
      hostSupply a bytes = .refused .streamChangedWhileBusy ∧ hostSupply b bytes = .refused .streamChangedWhileBusy := by
  obtain ⟨d, r, n, rfl⟩ := (sameDecode_iff a b).mp same
  unfold hostSupply
  dsimp only
  split
  · exact .inr ⟨rfl, rfl⟩
  · exact .inl ⟨_, _, rfl, rfl, rfl⟩

/-- Two states that a decode cannot tell apart complete a step alike, or stop for the same reason. -/
theorem sameDecode_step_cases (inv : a.Inv) :
    (∃ ta tb, step a = .next ta ∧ step b = .next tb ∧ SameDecode ta tb) ∨
    (∃ r, step a = .fault r ∧ step b = .fault r) ∨ ∃ r, step a = .refused r ∧ step b = .refused r := by
  have status := sameDecode_status same
  cases moves : a.host with
  | nil => exact .inl (sameDecode_step_coreTurn same inv (.inl ⟨moves, rfl⟩))
  | cons op rest =>
    have moves' := (sameDecode_host same).trans moves
    have kept := sameDecode_withHost same rest
    cases op with
    | wait => exact .inl (sameDecode_step_coreTurn same inv (.inr (.inl moves)))
    | awaitNotBusy =>
      by_cases busy : a.status = .busy
      · exact .inl (sameDecode_step_coreTurn same inv (.inr (.inr ⟨busy, rfl, rest, moves⟩)))
      · exact .inl ⟨_, _, step_awaited moves busy, step_awaited moves' (status ▸ busy), kept⟩
    | write reg v =>
      by_cases command : reg = 3 ∧ v.getLsbD 0 = true ∧ a.status ≠ .busy
      · obtain ⟨rfl, bit, accepted⟩ := command
        exact .inl ⟨_, _, step_start moves bit accepted, step_start moves' bit (status ▸ accepted),
          sameDecode_resolveAndCheck (sameDecode_startEntry kept)⟩
      · exact .inl ⟨_, _, step_csrWrite moves command, step_csrWrite moves' (status ▸ command), sameDecode_csrWrite kept reg v⟩
    | read reg =>
      refine .inl ⟨_, _, step_hostRead moves, step_hostRead moves', ?_⟩
      obtain ⟨d, r, n, rfl⟩ := (sameDecode_iff a b).mp same
      rfl
    | readOut addr =>
      rw [step_hostReadOut moves, step_hostReadOut moves']
      exact (sameDecode_hostReadOut kept addr).imp_right fun faults => .inl ⟨_, faults⟩
    | supply bytes =>
      rw [step_hostSupply moves, step_hostSupply moves']
      exact (sameDecode_hostSupply kept bytes).imp_right fun refusals => .inr ⟨_, refusals⟩
    | reset => exact .inl ⟨_, _, step_hostReset moves, step_hostReset moves', sameDecode_resetCore kept⟩

end

/-- Settles O57: `sameDecode_step_cases`, read off the outcome of the first state. -/
theorem unobservableStateHasNoInfluence : Obligations.UnobservableStateHasNoInfluence := by
  unfold Obligations.UnobservableStateHasNoInfluence
  intro a b inv same
  obtain ⟨ta, tb, stepA, stepB, same'⟩ | ⟨r, stepA, stepB⟩ | ⟨r, stepA, stepB⟩ := sameDecode_step_cases same inv
  · rw [stepA]
    exact ⟨tb, stepB, same'⟩
  · rw [stepA]
    exact stepB
  · rw [stepA]
    exact stepB

end Sys2Proof.Machine
end

section
/-! # Proofs of 20_memory.md and 10_state.md section 2: the host's moves (R11 to R15, R30 to R36, R48), and what every step keeps -/

namespace Sys2Proof.Machine

/-! ### Register reads and writes -/

/-- Settles O41: `csrRead` register by register. -/
theorem hostReadsRegister : Obligations.HostReadsRegister := by
  unfold Obligations.HostReadsRegister
  intro s reg rest moves
  refine ⟨_, step_hostRead moves, ?_⟩
  unfold csrRead
  split
  case h_1 => exact BitVec.toNat_setWidth_of_le (by decide)
  case h_2 => exact BitVec.toNat_setWidth_of_le (by decide)
  case h_3 => rfl
  case h_4 => rfl
  case h_5 => cases s.status <;> rfl
  case h_6 => cases s.errKind <;> rfl
  case h_7 => rfl
  case h_8 => rfl
  case h_9 => exact BitVec.toNat_setWidth_of_le (by decide)
  case h_10 => exact BitVec.toNat_setWidth_of_le (by decide)
  case h_11 => simp_all

/-- A register write stores into one of the three parameter registers, or nowhere (R11 to R15, R36). -/
theorem csrWrite_cases (s : State) (reg : Nat) (v : BitVec 64) :
    csrWrite s reg v = s ∧ (s.status = .busy ∨ 3 ≤ reg) ∨
    s.status ≠ .busy ∧ (reg = 0 ∧ csrWrite s reg v = { s with reqWidth := v.setWidth 32 } ∨
      reg = 1 ∧ csrWrite s reg v = { s with reqHeight := v.setWidth 32 } ∨
      reg = 2 ∧ csrWrite s reg v = { s with streamLen := v }) := by
  by_cases busy : s.status = .busy
  · exact .inl ⟨csrWrite_of_busy busy reg v, .inl busy⟩
  · match reg with
    | 0 => exact .inr ⟨busy, .inl ⟨rfl, if_neg busy⟩⟩
    | 1 => exact .inr ⟨busy, .inr (.inl ⟨rfl, if_neg busy⟩)⟩
    | 2 => exact .inr ⟨busy, .inr (.inr ⟨rfl, if_neg busy⟩)⟩
    | n + 3 => exact .inl ⟨if_neg busy, .inr (Nat.le_add_left 3 n)⟩

theorem csrWrite_of_ge (s : State) {reg : Nat} (v : BitVec 64) (other : 3 ≤ reg) : csrWrite s reg v = s := by
  obtain ⟨same, -⟩ | ⟨-, ⟨rfl, -⟩ | ⟨rfl, -⟩ | ⟨rfl, -⟩⟩ := csrWrite_cases s reg v
  · exact same
  · omega
  · omega
  · omega

/-- Settles O42: outside `BUSY` the step is the register write. -/
theorem hostWritesRegister : Obligations.HostWritesRegister := by
  unfold Obligations.HostWritesRegister
  intro s reg v rest moves quiet
  have stepped (noStart : reg ≠ 3 ∨ ¬ v.getLsbD 0 = true) : step s = .next (csrWrite { s with host := rest } reg v) := by
    refine step_csrWrite moves ?_
    rintro ⟨ctrl, bit, -⟩
    exact noStart.elim (· ctrl) (· bit)
  refine ⟨fun width => ?_, fun height => ?_, fun len => ?_, fun ctrl clear => ?_, fun other => ?_⟩
  · subst width
    exact (stepped (.inl (by decide))).trans (congrArg _ (if_neg quiet))
  · subst height
    exact (stepped (.inl (by decide))).trans (congrArg _ (if_neg quiet))
  · subst len
    exact (stepped (.inl (by decide))).trans (congrArg _ (if_neg quiet))
  · rw [stepped (.inr (ne_true_of_eq_false clear)), csrWrite_of_ge _ v ctrl.ge]
  · rw [stepped (.inl other.ne'), csrWrite_of_ge _ v other.le]

/-! ### `OUT` and the stream -/

/-- Settles O44: the three answers of `hostReadOut`. -/
theorem hostReadsOut : Obligations.HostReadsOut := by
  unfold Obligations.HostReadsOut
  intro s addr rest moves
  rw [step_hostReadOut moves]
  unfold hostReadOut
  refine ⟨fun b done below listed => ?_, fun elsewhere => ?_, fun done above => ?_⟩
  · simp only [done, below, listed, if_true]
  · exact ⟨_, if_neg elsewhere⟩
  · simp only [done, if_true, if_neg above.not_gt]

theorem byteAt_memOfBytes_eq_getElem? (bs : List Byte) (a : Nat) : byteAt (memOfBytes 0 bs) a = bs[a]? := by
  by_cases inside : a < bs.length
  · have listed := byteAt_memOfBytes 0 bs inside
    rwa [Nat.zero_add, ← List.getElem?_eq_getElem inside] at listed
  · have listed := byteAt_isSome_iff_of_gapless (memOfBytes_gapless bs) a
    rw [memOfBytes_length] at listed
    rw [List.getElem?_eq_none (Nat.not_lt.mp inside), ← Option.not_isSome_iff_eq_none, listed]
    exact inside

/-- A read of a supplied stream is a part of the bytes supplied (20_memory.md R32, R33). -/
theorem memRead_memOfBytes (bs : List Byte) (addr n : Nat) : memRead (memOfBytes 0 bs) addr n = (bs.drop addr).take n := by
  induction n generalizing addr with
  | zero => rfl
  | succ n ih =>
    rw [memRead, byteAt_memOfBytes_eq_getElem?]
    by_cases inside : addr < bs.length
    · rw [List.getElem?_eq_getElem inside, List.drop_eq_getElem_cons inside, List.take_succ_cons]
      exact congrArg _ (ih (addr + 1))
    · rw [List.getElem?_eq_none (Nat.not_lt.mp inside), List.drop_eq_nil_of_le (Nat.not_lt.mp inside), List.take_nil]

/-- Settles O45: outside `BUSY` the bytes become the stream. -/
theorem hostSuppliesStream : Obligations.HostSuppliesStream := by
  unfold Obligations.HostSuppliesStream
  intro s bytes rest moves
  rw [step_hostSupply moves]
  exact ⟨fun quiet => ⟨_, if_neg quiet, rfl, memOfBytes_gapless bytes, memRead_memOfBytes bytes⟩, fun busy => if_pos busy⟩

/-! ### What every step keeps -/

theorem afterPixel_band_cases (s : State) : (afterPixel s).band = s.band ∨ (afterPixel s).band = [] := by
  obtain ⟨-, next⟩ | ⟨-, -, next⟩ | ⟨-, -, -, next⟩ | ⟨-, -, -, next⟩ := afterPixel_cases s
  · rw [next]
    exact .inl rfl
  · rw [next]
    exact .inl rfl
  · rw [next]
    exact .inl rfl
  · rw [next]
    exact .inr (afterBand_band s)

theorem memoryForm_visitPixel {s : State} (form : s.MemoryForm) : (visitPixel s).MemoryForm := by
  obtain ⟨stream, out, band⟩ := form
  refine ⟨?_, ?_, ?_⟩
  · obtain ⟨_, _, _, visit⟩ := visitPixel_eq_afterPixel s
    rw [visit, afterPixel_stream]
    exact stream
  · obtain ⟨p, written⟩ := visitPixel_out s
    rw [written]
    split
    · exact memWrite_wf out _ _
    · exact out
  · obtain ⟨out', outp', n, visit⟩ := visitPixel_eq_afterPixel s
    rw [visit]
    obtain kept | released := afterPixel_band_cases { s with out := out', outp := outp', freeCtr := n }
    · rw [kept]
      exact band
    · rw [released]
      exact List.Pairwise.nil

/-- Settles O50: a step writes a store through `Store.write`, empties it, or replaces the stream by a gapless one. -/
theorem stepKeepsMemoryForm : Obligations.StepKeepsMemoryForm := by
  unfold Obligations.StepKeepsMemoryForm
  intro s t form stepped
  obtain ⟨stream, out, band⟩ := id form
  cases stepsTo_of_step stepped with
  | quiet => exact form
  | block turn busy reading fetched ran =>
    rw [exec_decodeBlock_frame ran]
    refine ⟨?_, ?_, ?_⟩
    · rw [storeBlock_stream]
      exact stream
    · rw [storeBlock_out]
      exact out
    · rw [storeBlock_band]
      exact bandWrite_wf band _ _
  | shortRead => exact ⟨stream, List.Pairwise.nil, List.Pairwise.nil⟩
  | @visit rest => exact memoryForm_visitPixel (s := { s with host := rest }) form
  | awaited => exact form
  | @start v rest =>
    have checked := checked_resolveAndCheck (startEntry { s with host := rest })
    unfold State.MemoryForm
    rw [checked.stream, checked.out rfl, checked.band rfl]
    exact ⟨stream, List.Pairwise.nil, List.Pairwise.nil⟩
  | csrWrite =>
    rw [csrWrite_frame]
    exact form
  | csrRead => exact form
  | readOut moves answered =>
    rw [hostReadOut_frame answered]
    exact form
  | @supply bytes rest t moves answered =>
    by_cases busy : s.status = .busy
    · cases answered.symm.trans (if_pos busy)
    · cases answered.symm.trans (if_neg busy)
      exact ⟨memOfBytes_wf 0 bytes, out, band⟩
  | reset => exact ⟨stream, List.Pairwise.nil, List.Pairwise.nil⟩

/-- A visit consumes nothing, and emits a pixel of three bytes or none (R144, R145). -/
theorem visitPixel_pos (s : State) : (visitPixel s).pos = s.pos := by
  obtain ⟨_, _, _, visit⟩ := visitPixel_eq_afterPixel s
  rw [visit, afterPixel_pos]

theorem emitPixel_outp_cases (s : State) (p : Pixel) : (emitPixel s p).outp = s.outp ∨ (emitPixel s p).outp = s.outp + 3 := by
  rw [emitPixel, afterPixel_outp]
  split
  · exact .inr rfl
  · exact .inl rfl

theorem visitPixel_outp_cases (s : State) : (visitPixel s).outp = s.outp ∨ (visitPixel s).outp = s.outp + 3 := by
  obtain ⟨p, -, visit⟩ | ⟨-, visit⟩ := visitPixel_cases s
  · rw [visit]
    exact emitPixel_outp_cases s p
  · rw [visit]
    exact emitPixel_outp_cases _ _

/-- Settles O51: a block is 8 bytes, a pixel 3, and `START` and reset begin at 0. -/
theorem stepKeepsPositionsAligned : Obligations.StepKeepsPositionsAligned := by
  unfold Obligations.StepKeepsPositionsAligned
  intro s t pos outp stepped
  cases stepsTo_of_step stepped with
  | quiet => exact ⟨pos, outp⟩
  | block turn busy reading fetched ran =>
    rw [exec_decodeBlock_frame ran, storeBlock_pos, storeBlock_outp]
    dsimp only
    omega
  | shortRead => exact ⟨pos, outp⟩
  | @visit rest =>
    have emitted := visitPixel_outp_cases { s with host := rest }
    rw [visitPixel_pos]
    dsimp only at emitted ⊢
    omega
  | awaited => exact ⟨pos, outp⟩
  | @start v rest =>
    have checked := checked_resolveAndCheck (startEntry { s with host := rest })
    rw [checked.pos, checked.outp]
    exact ⟨rfl, rfl⟩
  | csrWrite =>
    rw [csrWrite_frame]
    exact ⟨pos, outp⟩
  | csrRead => exact ⟨pos, outp⟩
  | readOut moves answered =>
    rw [hostReadOut_frame answered]
    exact ⟨pos, outp⟩
  | supply moves answered =>
    rw [hostSupply_frame answered]
    exact ⟨pos, outp⟩
  | reset => exact ⟨rfl, rfl⟩

/-! ### The run-state -/

/-- An accepted `START` ends in any run-state but `IDLE` (R136, R147). -/
theorem resolveAndCheck_status_ne_idle {s : State} (busy : s.status = .busy) : (resolveAndCheck s).status ≠ .idle := by
  obtain ⟨-, outcome⟩ | ⟨w, h, -, -, ⟨-, outcome⟩ | ⟨-, ⟨-, outcome⟩ | ⟨-, ⟨-, outcome⟩ | ⟨-, outcome⟩⟩⟩⟩ := resolveAndCheck_cases s
  · simp [outcome]
  · simp [outcome]
  · simp [outcome]
  · simp [outcome]
  · rw [outcome, beginTraversal]
    split
    · exact RunState.noConfusion
    · rw [publish_status, busy]
      exact RunState.noConfusion

/-- Outside `BUSY` the run-state changes by reset or by `START` only (R16, R159). -/
theorem step_leaves_quiet {s t : State} (quiet : s.status ≠ .busy) (stepped : step s = .next t)
    (changed : t.status ≠ s.status) :
    (∃ rest, s.host = .reset :: rest ∧ t.status = .idle) ∨
      ∃ v rest, s.host = .write 3 v :: rest ∧ v.getLsbD 0 = true ∧ t.status ≠ .idle := by
  cases stepsTo_of_step stepped with
  | quiet => exact absurd rfl changed
  | block turn busy => exact absurd busy quiet
  | shortRead turn busy => exact absurd busy quiet
  | visit turn busy => exact absurd busy quiet
  | awaited => exact absurd rfl changed
  | @start v rest moves bit => exact .inr ⟨v, rest, moves, bit, resolveAndCheck_status_ne_idle (startEntry_status _)⟩
  | csrWrite => exact absurd (csrWrite_status _ _ _) changed
  | csrRead => exact absurd rfl changed
  | readOut moves answered =>
    rw [hostReadOut_frame answered] at changed
    exact absurd rfl changed
  | supply moves answered =>
    rw [hostSupply_frame answered] at changed
    exact absurd rfl changed
  | @reset rest moves => exact .inl ⟨rest, moves, rfl⟩

/-- Settles O53: the ways out of `BUSY`, and the ways out of any other run-state. -/
theorem runStateTransitions : Obligations.RunStateTransitions := by
  unfold Obligations.RunStateTransitions
  intro s t stepped changed
  by_cases busy : s.status = .busy
  · rw [busy] at changed
    obtain ⟨rest, moves, idle⟩ | ⟨rest, turn, phase, error, kind⟩ | ⟨rest, turn, phase, done, -⟩ :=
      step_leaves_busy busy stepped changed
    · exact ⟨fun _ => ⟨rest, moves⟩, fun quiet => absurd busy quiet, fun _ notIdle => absurd idle notIdle⟩
    · refine ⟨fun idle => ?_, fun quiet => absurd busy quiet, fun _ _ => ⟨⟨rest, turn⟩, .inr ⟨error, phase, kind⟩⟩⟩
      cases idle.symm.trans error
    · refine ⟨fun idle => ?_, fun quiet => absurd busy quiet, fun _ _ => ⟨⟨rest, turn⟩, .inl ⟨done, phase⟩⟩⟩
      cases idle.symm.trans done
  · obtain ⟨rest, moves, idle⟩ | ⟨v, rest, moves, bit, notIdle⟩ := step_leaves_quiet busy stepped changed
    · exact ⟨fun _ => ⟨rest, moves⟩, fun _ notIdle => absurd idle notIdle, fun isBusy => absurd isBusy busy⟩
    · exact ⟨fun idle => absurd idle notIdle, fun _ _ => ⟨v, rest, moves, bit⟩, fun isBusy => absurd isBusy busy⟩

/-! ### The parameters -/

/-- The registers a decode is asked with, and the stream it reads. -/
def State.SameRequest (s t : State) : Prop :=
  t.stream = s.stream ∧ t.reqWidth = s.reqWidth ∧ t.reqHeight = s.reqHeight ∧ t.streamLen = s.streamLen

/-- A step keeps the run parameters, and the request but for what the host does to it (10_state.md R12, R13, R27). -/
theorem step_request_cases {s t : State} (stepped : step s = .next t) : t.par = s.par ∧
    (s.SameRequest t ∨
      (∃ reg v rest, s.host = .write reg v :: rest ∧ t = csrWrite { s with host := rest } reg v) ∨
      (s.status ≠ .busy ∧ (∃ bytes rest, s.host = .supply bytes :: rest) ∧ t = { s with host := t.host, stream := t.stream }) ∨
      (∃ rest, s.host = .reset :: rest) ∧ t.stream = s.stream) := by
  cases stepsTo_of_step stepped with
  | quiet => exact ⟨rfl, .inl ⟨rfl, rfl, rfl, rfl⟩⟩
  | block turn busy reading fetched ran =>
    rw [exec_decodeBlock_frame ran]
    exact ⟨storeBlock_par _, .inl ⟨storeBlock_stream _, storeBlock_reqWidth _, storeBlock_reqHeight _, storeBlock_streamLen _⟩⟩
  | shortRead => exact ⟨rfl, .inl ⟨rfl, rfl, rfl, rfl⟩⟩
  | @visit rest =>
    obtain ⟨_, _, _, visit⟩ := visitPixel_eq_afterPixel { s with host := rest }
    rw [visit]
    exact ⟨afterPixel_par _, .inl ⟨afterPixel_stream _, afterPixel_reqWidth _, afterPixel_reqHeight _, afterPixel_streamLen _⟩⟩
  | awaited => exact ⟨rfl, .inl ⟨rfl, rfl, rfl, rfl⟩⟩
  | @start v rest =>
    have checked := checked_resolveAndCheck (startEntry { s with host := rest })
    exact ⟨checked.par, .inl ⟨checked.stream, checked.reqWidth, checked.reqHeight, checked.streamLen⟩⟩
  | @csrWrite reg v rest moves =>
    refine ⟨?_, .inr (.inl ⟨reg, v, rest, moves, rfl⟩)⟩
    rw [csrWrite_frame]
  | csrRead => exact ⟨rfl, .inl ⟨rfl, rfl, rfl, rfl⟩⟩
  | readOut moves answered =>
    rw [hostReadOut_frame answered]
    exact ⟨rfl, .inl ⟨rfl, rfl, rfl, rfl⟩⟩
  | @supply bytes rest t moves answered =>
    by_cases busy : s.status = .busy
    · cases answered.symm.trans (if_pos busy)
    · cases answered.symm.trans (if_neg busy)
      exact ⟨rfl, .inr (.inr (.inl ⟨busy, ⟨bytes, rest, moves⟩, rfl⟩))⟩
  | @reset rest moves => exact ⟨rfl, .inr (.inr (.inr ⟨⟨rest, moves⟩, rfl⟩))⟩

/-- Settles O54: the host's three ways to change the request. -/
theorem coreNeverWritesParameters : Obligations.CoreNeverWritesParameters := by
  unfold Obligations.CoreNeverWritesParameters
  intro s t stepped
  obtain ⟨par, ⟨stream, reqWidth, reqHeight, streamLen⟩ | ⟨reg, v, rest, moves, rfl⟩ | ⟨quiet, supplied, frame⟩ |
    ⟨reset, stream⟩⟩ := step_request_cases stepped
  · exact ⟨par, fun changed => absurd stream changed, fun changed => absurd reqWidth changed,
      fun changed => absurd reqHeight changed, fun changed => absurd streamLen changed⟩
  · refine ⟨par, fun changed => absurd (csrWrite_stream _ _ _) changed, ?_⟩
    obtain ⟨same, -⟩ | ⟨quiet, ⟨rfl, stored⟩ | ⟨rfl, stored⟩ | ⟨rfl, stored⟩⟩ := csrWrite_cases { s with host := rest } reg v
    · rw [same]
      exact ⟨(absurd rfl ·), (absurd rfl ·), (absurd rfl ·)⟩
    · rw [stored]
      exact ⟨fun _ => .inr ⟨quiet, v, rest, moves⟩, (absurd rfl ·), (absurd rfl ·)⟩
    · rw [stored]
      exact ⟨(absurd rfl ·), fun _ => .inr ⟨quiet, v, rest, moves⟩, (absurd rfl ·)⟩
    · rw [stored]
      exact ⟨(absurd rfl ·), (absurd rfl ·), fun _ => .inr ⟨quiet, v, rest, moves⟩⟩
  · refine ⟨par, fun _ => ⟨quiet, supplied⟩, ?_⟩
    rw [frame]
    exact ⟨(absurd rfl ·), (absurd rfl ·), (absurd rfl ·)⟩
  · exact ⟨par, fun changed => absurd stream changed, fun _ => .inl reset, fun _ => .inl reset, fun _ => .inl reset⟩

/-! ### Completion, and the host in `BUSY` -/

/-- The core always completes its turn (R149). -/
theorem step_completes_of_coreTurn {s : State} {rest : List HostOp} (turn : s.CoreTurn rest) : Completes (step s) := by
  by_cases busy : s.status = .busy
  · cases phase : s.phase with
    | read =>
      cases fetched : blockOfBytes (memRead s.stream s.pos 8) with
      | some w =>
        obtain ⟨d, -, -, stepped⟩ := step_block turn busy phase fetched
        exact ⟨_, stepped⟩
      | none => exact ⟨_, step_shortRead turn busy phase fetched⟩
    | emit => exact ⟨_, step_visit turn busy phase⟩
  · exact ⟨_, step_quiet turn busy⟩

/-- Settles O55: the moves that can stop are the two excluded. -/
theorem noStuckState : Obligations.NoStuckState := by
  unfold Obligations.NoStuckState
  refine ⟨fun s noReadOut noSupply => ?_, fun s alone quiet => ?_⟩
  · cases moves : s.host with
    | nil => exact step_completes_of_coreTurn (.inl ⟨moves, rfl⟩)
    | cons op rest =>
      cases op with
      | wait => exact step_completes_of_coreTurn (.inr (.inl moves))
      | awaitNotBusy =>
        by_cases busy : s.status = .busy
        · exact step_completes_of_coreTurn (.inr (.inr ⟨busy, rfl, rest, moves⟩))
        · exact ⟨_, step_awaited moves busy⟩
      | write reg v =>
        by_cases command : reg = 3 ∧ v.getLsbD 0 = true ∧ s.status ≠ .busy
        · obtain ⟨rfl, bit, accepted⟩ := command
          exact ⟨_, step_start moves bit accepted⟩
        · exact ⟨_, step_csrWrite moves command⟩
      | read reg => exact ⟨_, step_hostRead moves⟩
      | readOut addr => exact absurd moves (noReadOut addr rest)
      | supply bytes => exact absurd moves (noSupply bytes rest)
      | reset => exact ⟨_, step_hostReset moves⟩
  · have unmoved : { s with host := [] } = s := by rw [← alone]
    rw [step_quiet (.inl ⟨alone, rfl⟩) quiet, unmoved]

/-- Settles O56: while `BUSY` a write is ignored, a read answers the host, and a supply is refused. -/
theorem hostCannotDisturbDecode : Obligations.HostCannotDisturbDecode := by
  unfold Obligations.HostCannotDisturbDecode
  intro s t op rest busy moves notWait notAwait notReset stepped
  cases op with
  | wait => exact absurd rfl notWait
  | awaitNotBusy => exact absurd rfl notAwait
  | reset => exact absurd rfl notReset
  | write reg v =>
    cases stepped.symm.trans (writesWhileBusyAreIgnored s reg v rest moves busy)
    rfl
  | read reg =>
    cases stepped.symm.trans (step_hostRead moves)
    rfl
  | readOut addr => exact hostReadOut_frame ((step_hostReadOut moves).symm.trans stepped)
  | supply bytes => cases stepped.symm.trans ((step_hostSupply moves).trans (if_pos busy))

end Sys2Proof.Machine
end
